-- ==== Sys2Proof/Word.lean ====
section
/-! DEFINITION. The two word types of the machine: 8-bit bytes and 16-bit addresses and pairs
(00_scope.md, fixed parameters; 10_state.md R20, R26). -/

namespace Sys2Proof

/-- A byte: an 8-bit register, a memory cell, an instruction byte (10_state.md R20). -/
abbrev Byte := BitVec 8

/-- A 16-bit value: PC, SP, a register pair, a bus address (10_state.md R22, R26, R27, R48). -/
abbrev Word := BitVec 16

end Sys2Proof
end

