-- ==== Sys2Proof/Machine/Bits.lean ====
section
/-! DEFINITION. Byte halves, byte order, extension and bit helpers (00_scope.md R14, R15; 20_memory.md R76). -/

namespace Sys2Proof

/-- `v[15:8]` (00_scope.md R14). -/
def hi (w : Word) : Byte := w.extractLsb' 8 8

/-- `v[7:0]` (00_scope.md R14). -/
def lo (w : Word) : Byte := w.extractLsb' 0 8

/-- `{h, l}`: `h` most significant (00_scope.md R14). -/
def join (h l : Byte) : Word := h ++ l

/-- `sext_16(b)` (00_scope.md R15, 30_encoding.md R143). -/
def sext16 (b : Byte) : Word := b.signExtend 16

/-- The address `0xFF00 + n` of page 0xFF (30_encoding.md R143, 40_load8.md R181 to R184). -/
def highPage (n : Byte) : Word := join 0xFF#8 n

/-- The low nibble `v[3:0]` as a number (00_scope.md R14). -/
def lowNibble (b : Byte) : Nat := b.toNat % 16

/-- The value 0 or 1 of a flag, as the pseudocode uses it in a sum (42_alu8.md R224). -/
def bitValue (c : Bool) : Nat := if c then 1 else 0

/-- The byte with bit `b` set alone: `1 << b` (44_rotate_shift_bit.md R293, R295). -/
def oneHot (b : BitVec 3) : Byte := 1#8 <<< b.toNat

end Sys2Proof
end

