-- ==== Sys2Proof/Config.lean ====
section
/-! DEFINITION. The configuration of a machine: the parameters of 00_scope.md R7 to R13 and the answers of the
environment (60_exceptions.md R384). None of it is changed by a step. -/

namespace Sys2Proof

/-- `VRAM_BANKS` in {1, 2} (00_scope.md R7). -/
inductive VramBanks where
  | one
  | two
  deriving DecidableEq, Repr

/-- `WRAM_BANKS` in {2, 8} (00_scope.md R7). -/
inductive WramBanks where
  | two
  | eight
  deriving DecidableEq, Repr

/-- `CART_VARIANT` (00_scope.md R9). -/
inductive CartVariant where
  | romOnly
  | mbc1
  | mbc3
  | mbc5
  deriving DecidableEq, Repr

/-- `CART_RAM_SIZE` in {0, 0x2000, 0x8000, 0x10000, 0x20000} (00_scope.md R10). -/
inductive CartRamSize where
  | none
  | kib8
  | kib32
  | kib64
  | kib128
  deriving DecidableEq, Repr

/-- `CART_RAM_SIZE` as a number of bytes (00_scope.md R10). -/
def CartRamSize.bytes : CartRamSize → Nat
  | .none => 0
  | .kib8 => 0x2000
  | .kib32 => 0x8000
  | .kib64 => 0x10000
  | .kib128 => 0x20000

/-- What a running machine reads of its configuration (00_scope.md R7 to R11). `rom` lists the image's bytes by
offset; a byte it does not list is 0x00 (log 4, DESIGN CHOICE, unsafe). -/
structure Config where
  /-- The cartridge image `ROM`, by byte offset (00_scope.md R8). -/
  rom : List Host.Cell
  /-- `NBANKS = len(ROM) / 0x4000` (00_scope.md R8). -/
  nbanks : Nat
  cramSize : CartRamSize
  vramBanks : VramBanks
  wramBanks : WramBanks
  /-- `HALT_BUG` (00_scope.md R11). -/
  haltBug : Bool
  deriving DecidableEq, Repr

/-- What the collaborators answer at one notification (60_exceptions.md R384 points 4 and 5): which of sources 0, 1, 3
and 4 they request, and which device-owned I/O bytes they change, by offset from 0xFF00, in order. -/
structure EnvAnswer where
  vblank : Bool
  lcdStatus : Bool
  serial : Bool
  joypad : Bool
  bytes : List (BitVec 7 × Byte)
  deriving DecidableEq, Repr

end Sys2Proof
end

