-- ==== Sys2Proof/Machine/State.lean ====
section
/-! DEFINITION. The machine's state (10_state.md R20 to R47), its fault and refusal reasons, and its reset state
(10_state.md R60 to R67, 70_reset_and_hazards.md R401). -/

namespace Sys2Proof.Machine

/-- A store of bytes by index, in ONE canonical form: indexes strictly rising, no entry equal to `Memory.unlisted`. -/
abbrev Memory := List Host.Cell

/-- What an index that is not listed reads as (log 4, DESIGN CHOICE, unsafe: the spec's default of INIT_MEM, 00_scope.md R13). -/
def Memory.unlisted : Byte := 0x00#8

/-- The seven general registers (10_state.md R20); `F` is `Flags`. -/
structure Regs where
  a : Byte
  b : Byte
  c : Byte
  d : Byte
  e : Byte
  h : Byte
  l : Byte
  deriving DecidableEq, Repr

/-- The four flags, the one source of truth of `F` (10_state.md R23, R24; log 16, DESIGN CHOICE, safe): Z is F[7], N is F[6],
HF is F[5], CF is F[4]. -/
structure Flags where
  z : Bool
  n : Bool
  hf : Bool
  cf : Bool
  deriving DecidableEq, Repr

/-- The timer (10_state.md R35 to R38, 60_exceptions.md R370). -/
structure Timer where
  div : Word
  /-- `tima_acc`, a non-negative integer (10_state.md R36). -/
  acc : Nat
  tima : Byte
  tma : Byte
  tac : BitVec 3
  deriving DecidableEq, Repr

/-- MBC1 bank-select state (10_state.md R47). -/
structure Mbc1 where
  ramEnable : Bool
  bankLo : BitVec 5
  bankHi : BitVec 2
  mode : Bool
  deriving DecidableEq, Repr

/-- MBC3 bank-select state and its five clock bytes, by index 0 to 4 (10_state.md R47). -/
structure Mbc3 where
  ramEnable : Bool
  romBank : BitVec 7
  ramSel : BitVec 4
  rtc : Memory
  deriving DecidableEq, Repr

/-- MBC5 bank-select state (10_state.md R47). -/
structure Mbc5 where
  ramEnable : Bool
  romBank : BitVec 9
  ramSel : BitVec 4
  deriving DecidableEq, Repr

/-- Bank-select state by variant (10_state.md R47); the constructor is `CART_VARIANT` (00_scope.md R9, log 18, DESIGN CHOICE, safe). -/
inductive Cart where
  | romOnly
  | mbc1 (m : Mbc1)
  | mbc3 (m : Mbc3)
  | mbc5 (m : Mbc5)
  deriving DecidableEq, Repr

/-- The state of the machine: the items of 10_state.md R20 to R47, the configuration (log 1, DESIGN CHOICE, safe), and three fields of the
model's own, `env` (log 11, DESIGN CHOICE, safe), `cost` and `cycles` (log 10, DESIGN CHOICE, safe). -/
structure State where
  regs : Regs
  f : Flags
  /-- 10_state.md R27. -/
  sp : Word
  /-- 10_state.md R26. -/
  pc : Word
  /-- 10_state.md R28. -/
  ime : Bool
  /-- `ime_pending`, 10_state.md R29. -/
  imePending : Bool
  /-- 10_state.md R30. -/
  halted : Bool
  /-- `halt_bug`, 10_state.md R31. -/
  haltBug : Bool
  /-- `none`, or the opcode byte and the address it was fetched from, 10_state.md R32. -/
  fault : Option (Byte × Word)
  /-- `IF`, 10_state.md R33. -/
  ifr : BitVec 5
  /-- `IE`, 10_state.md R34. -/
  ie : Byte
  timer : Timer
  /-- 10_state.md R39. -/
  dma : Byte
  /-- 10_state.md R40. -/
  vbk : BitVec 1
  /-- 10_state.md R41. -/
  svbk : BitVec 3
  /-- Device-owned I/O bytes by offset from 0xFF00, 10_state.md R42. -/
  io : Memory
  /-- `vram[b][k]` at index `b * 0x2000 + k`, 10_state.md R44. -/
  vram : Memory
  /-- `wram[b][k]` at index `b * 0x1000 + k`, 10_state.md R45. -/
  wram : Memory
  /-- 10_state.md R46. -/
  oam : Memory
  /-- 10_state.md R46. -/
  hram : Memory
  /-- 10_state.md R47. -/
  cram : Memory
  cart : Cart
  cfg : Config
  /-- The collaborators' answers at the notifications to come, the next one first (log 11, DESIGN CHOICE, safe). -/
  env : List EnvAnswer
  /-- The cost the last CPU step reported (30_encoding.md R140, R155; log 10, DESIGN CHOICE, safe). -/
  cost : Nat
  /-- What the last machine step returned (60_exceptions.md R380; log 10, DESIGN CHOICE, safe). -/
  cycles : Nat
  deriving DecidableEq, Repr

/-- Why the machine stops. -/
inductive Fault where
  /-- `UnimplementedOpcode{opcode, pc}` surfaced to the host (60_exceptions.md R340, R381). Raised by `step` alone, in a
  state whose `fault` item holds the pair: the machine has no further step there. Safe: the machine of the spec is
  stuck in that state too. -/
  | unimplementedOpcode (opcode : Byte) (pc : Word)
  deriving DecidableEq, Repr

/-- Why an instruction is refused. -/
inductive Refusal where
  /-- Raised by an arm of `exec` for an instruction that has no meaning yet. No arm raises it now. Safe. -/
  | notModelled (mnemonic : String)
  deriving DecidableEq, Repr

/-- The bank-select state at reset (10_state.md R66); the clock bytes take `INIT_MEM` (10_state.md R65). -/
def Cart.init (rtc : Memory) : CartVariant → Cart
  | .romOnly => .romOnly
  | .mbc1 => .mbc1 { ramEnable := false, bankLo := 1#5, bankHi := 0#2, mode := false }
  | .mbc3 => .mbc3 { ramEnable := false, romBank := 1#7, ramSel := 0#4, rtc := rtc }
  | .mbc5 => .mbc5 { ramEnable := false, romBank := 1#9, ramSel := 0#4 }

/-- `INIT_MEM` (00_scope.md R13): the contents of every RAM cell and device-owned byte at reset. -/
structure InitMem where
  io : Memory
  vram : Memory
  wram : Memory
  oam : Memory
  hram : Memory
  cram : Memory
  rtc : Memory
  deriving DecidableEq, Repr

/-- Everything construction takes (00_scope.md R7 to R13, 70_reset_and_hazards.md R401 step 1), but the environment. -/
structure Params where
  cfg : Config
  variant : CartVariant
  /-- `RESET_GPR` (00_scope.md R12); the four flags are F[7:4]. -/
  gpr : Regs
  flags : Flags
  mem : InitMem
  deriving DecidableEq, Repr

/-- The default `RESET_GPR` (00_scope.md R12; log 3, PRESUMED, unsafe). -/
def Params.defaultGpr : Regs :=
  { a := 0x01#8, b := 0x00#8, c := 0x13#8, d := 0x00#8, e := 0xD8#8, h := 0x01#8, l := 0x4D#8 }

/-- The default F = 0xB0 (00_scope.md R12; log 3, PRESUMED, unsafe). -/
def Params.defaultFlags : Flags := { z := true, n := false, hf := true, cf := true }

/-- The default `INIT_MEM`, all 0x00 (00_scope.md R13; log 4, DESIGN CHOICE, unsafe). -/
def InitMem.zero : InitMem :=
  { io := [], vram := [], wram := [], oam := [], hram := [], cram := [], rtc := [] }

/-- The configuration of `State.reset`: the defaults of 00_scope.md and 92_eei_decisions.md, and for the cartridge, which
has no default, a blank 32 KiB `ROM_ONLY` image (log 2, DESIGN CHOICE, unsafe). -/
def Params.standard : Params :=
  { cfg := { rom := [], nbanks := 2, cramSize := .none, vramBanks := .one, wramBanks := .two, haltBug := true }
    variant := .romOnly
    gpr := Params.defaultGpr
    flags := Params.defaultFlags
    mem := InitMem.zero }

/-- Every state item at its reset value (70_reset_and_hazards.md R401 step 5, 10_state.md R60 to R66). -/
def State.init (p : Params) : State :=
  { regs := p.gpr
    f := p.flags
    sp := 0xFFFE#16
    pc := 0x0100#16
    ime := false
    imePending := false
    halted := false
    haltBug := false
    fault := none
    ifr := 0#5
    ie := 0x00#8
    timer := { div := 0#16, acc := 0, tima := 0x00#8, tma := 0x00#8, tac := 0#3 }
    dma := 0x00#8
    vbk := 0#1
    svbk := 0#3
    io := p.mem.io
    vram := p.mem.vram
    wram := p.mem.wram
    oam := p.mem.oam
    hram := p.mem.hram
    cram := p.mem.cram
    cart := Cart.init p.mem.rtc p.variant
    cfg := p.cfg
    env := []
    cost := 0
    cycles := 0 }

/-- The machine right after reset, with the standard parameters. -/
def State.reset : State := State.init Params.standard

end Sys2Proof.Machine
end

