-- ==== Sys2Proof/Machine/Store.lean ====
section
/-! DEFINITION. Reading and writing one byte of a store, keeping its canonical form. -/

namespace Sys2Proof.Machine

/-- The byte at index `k`. -/
def Memory.read : Memory → Nat → Byte
  | [], _ => Memory.unlisted
  | (j, v) :: m, k => if j = k then v else Memory.read m k

/-- Put an entry in front, unless it equals what an unlisted index reads as. -/
def Memory.cons (k : Nat) (v : Byte) (m : Memory) : Memory :=
  if v = Memory.unlisted then m else (k, v) :: m

/-- Write byte `v` at index `k`; writing the unlisted value removes the entry. -/
def Memory.write : Memory → Nat → Byte → Memory
  | [], k, v => Memory.cons k v []
  | (j, w) :: m, k, v =>
    if j < k then (j, w) :: Memory.write m k v
    else if j = k then Memory.cons k v m
    else Memory.cons k v ((j, w) :: m)

/-- The canonical form: indexes strictly rising, no entry equal to what an unlisted index reads as. -/
def Memory.wf : Memory → Bool
  | [] => true
  | (j, v) :: m => v != Memory.unlisted && m.all (fun c => decide (j < c.1)) && Memory.wf m

/-- Every listed index lies below the store's size. -/
def Memory.within (size : Nat) (m : Memory) : Bool := m.all fun c => decide (c.1 < size)

end Sys2Proof.Machine
end

