-- ==== Sys2Proof/Machine/Cart.lean ====
section
/-! DEFINITION. The cartridge banking controller (20_memory.md R100 to R127). -/

namespace Sys2Proof.Machine

/-- The byte offset in `ROM` that address `a` (0x0000 to 0x7FFF) shows (R112, R115, R119, R123); total for configurations that
R8 does not admit too (log 20, DESIGN CHOICE, safe). -/
def romOffset (cart : Cart) (cfg : Config) (a : Word) : Nat :=
  let n := a.toNat
  match cart with
  | .romOnly => n
  | .mbc1 m =>
    if n < 0x4000 then
      (if m.mode then m.bankHi.toNat * 32 % cfg.nbanks else 0) * 0x4000 + n
    else (m.bankHi.toNat * 32 + m.bankLo.toNat) % cfg.nbanks * 0x4000 + (n - 0x4000)
  | .mbc3 m =>
    if n < 0x4000 then n else m.romBank.toNat % cfg.nbanks * 0x4000 + (n - 0x4000)
  | .mbc5 m =>
    if n < 0x4000 then n else m.romBank.toNat % cfg.nbanks * 0x4000 + (n - 0x4000)

/-- What stands behind an address of 0xA000 to 0xBFFF. -/
inductive RamTarget where
  /-- Closed, absent or not selected: reads 0xFF, writes are ignored. -/
  | closed
  /-- `cram[i]`. -/
  | cram (i : Nat)
  /-- `rtc[i]` of an MBC3. -/
  | rtc (i : Nat)
  deriving DecidableEq, Repr

/-- `cram` at bank `bank`, the index reduced mod `CART_RAM_SIZE`; closed when that is 0 (R116, R120, R124). -/
def cramAt (cfg : Config) (bank : Nat) (a : Word) : RamTarget :=
  if cfg.cramSize.bytes = 0 then .closed
  else .cram ((bank * 0x2000 + (a.toNat - 0xA000)) % cfg.cramSize.bytes)

/-- What address `a` (0xA000 to 0xBFFF) reaches (R112, R113, R116, R120, R124). -/
def ramTarget (cart : Cart) (cfg : Config) (a : Word) : RamTarget :=
  match cart with
  | .romOnly => .closed
  | .mbc1 m => if m.ramEnable then cramAt cfg (if m.mode then m.bankHi.toNat else 0) a else .closed
  | .mbc3 m =>
    if m.ramEnable then
      if 0x8 ≤ m.ramSel.toNat ∧ m.ramSel.toNat ≤ 0xC then .rtc (m.ramSel.toNat - 8)
      else if m.ramSel.toNat ≤ 0x3 then cramAt cfg m.ramSel.toNat a
      else .closed
    else .closed
  | .mbc5 m => if m.ramEnable then cramAt cfg m.ramSel.toNat a else .closed

/-- `rtc[i]` of an MBC3 (R120). -/
def Cart.rtcRead (cart : Cart) (i : Nat) : Byte :=
  match cart with
  | .mbc3 m => m.rtc.read i
  | _ => 0xFF#8

/-- `rtc[i] <- v` of an MBC3 (R120). -/
def Cart.rtcWrite (cart : Cart) (i : Nat) (v : Byte) : Cart :=
  match cart with
  | .mbc3 m => .mbc3 { m with rtc := m.rtc.write i v }
  | c => c

/-- `cart_read(a)` for `a` in 0xA000 to 0xBFFF. -/
def cartReadRam (s : State) (a : Word) : Byte :=
  match ramTarget s.cart s.cfg a with
  | .closed => 0xFF#8
  | .cram i => s.cram.read i
  | .rtc i => s.cart.rtcRead i

/-- `cart_read(a)` for `a` in 0x0000 to 0x7FFF. -/
def cartReadRom (s : State) (a : Word) : Byte := Memory.read s.cfg.rom (romOffset s.cart s.cfg a)

/-- The RAM gate's new value: `v[3:0] = 0xA` (R113). -/
def gateOpen (v : Byte) : Bool := v.setWidth 4 == 0xA#4

/-- The bank-0 rule: index 0 aliases to index 1 (R126). -/
def notZero {w : Nat} (v : BitVec w) : BitVec w := if v = 0#w then 1#w else v

/-- The control writes of MBC1 (R113, R114). -/
def Mbc1.control (m : Mbc1) (n : Nat) (v : Byte) : Mbc1 :=
  if n < 0x2000 then { m with ramEnable := gateOpen v }
  else if n < 0x4000 then { m with bankLo := notZero (v.setWidth 5) }
  else if n < 0x6000 then { m with bankHi := v.setWidth 2 }
  else { m with mode := v.getLsbD 0 }

/-- The control writes of MBC3 (R113, R118); 0x6000 to 0x7FFF, the clock latch, has no effect. -/
def Mbc3.control (m : Mbc3) (n : Nat) (v : Byte) : Mbc3 :=
  if n < 0x2000 then { m with ramEnable := gateOpen v }
  else if n < 0x4000 then { m with romBank := notZero (v.setWidth 7) }
  else if n < 0x6000 then { m with ramSel := v.setWidth 4 }
  else m

/-- The control writes of MBC5 (R113, R122); 0x6000 to 0x7FFF has no effect. -/
def Mbc5.control (m : Mbc5) (n : Nat) (v : Byte) : Mbc5 :=
  if n < 0x2000 then { m with ramEnable := gateOpen v }
  else if n < 0x3000 then { m with romBank := m.romBank.extractLsb' 8 1 ++ v }
  else if n < 0x4000 then { m with romBank := v.extractLsb' 0 1 ++ m.romBank.extractLsb' 0 8 }
  else if n < 0x6000 then { m with ramSel := v.setWidth 4 }
  else m

/-- The bank-select state after `cart_write_rom(a, v)` (R112, R114, R118, R122). -/
def Cart.control (cart : Cart) (a : Word) (v : Byte) : Cart :=
  match cart with
  | .romOnly => .romOnly
  | .mbc1 m => .mbc1 (m.control a.toNat v)
  | .mbc3 m => .mbc3 (m.control a.toNat v)
  | .mbc5 m => .mbc5 (m.control a.toNat v)

/-- `cart_write_rom(a, v)`: a control write, never a data write (R80, R100). -/
def cartWriteRom (s : State) (a : Word) (v : Byte) : State := { s with cart := s.cart.control a v }

/-- `cart_write_ram(a, v)` (R82, R100). -/
def cartWriteRam (s : State) (a : Word) (v : Byte) : State :=
  match ramTarget s.cart s.cfg a with
  | .closed => s
  | .cram i => { s with cram := s.cram.write i v }
  | .rtc i => { s with cart := s.cart.rtcWrite i v }

end Sys2Proof.Machine
end

