-- ==== Sys2Proof/Machine/Bus.lean ====
section
/-! DEFINITION. The memory bus: the range table, the I/O dispatcher, byte and word accesses (20_memory.md R70 to R99). -/

namespace Sys2Proof.Machine

/-- The rows of the address-range table (R71). -/
inductive Region where
  | rom
  | vram
  | cartRam
  | wramFixed
  | wramBank
  | echo
  | oam
  | unusable
  | io
  | hram
  | ie
  deriving DecidableEq, Repr

/-- The row of R71 that contains `a`. -/
def regionOf (a : Word) : Region :=
  if a.toNat < 0x8000 then .rom
  else if a.toNat < 0xA000 then .vram
  else if a.toNat < 0xC000 then .cartRam
  else if a.toNat < 0xD000 then .wramFixed
  else if a.toNat < 0xE000 then .wramBank
  else if a.toNat < 0xFE00 then .echo
  else if a.toNat < 0xFEA0 then .oam
  else if a.toNat < 0xFF00 then .unusable
  else if a.toNat < 0xFF80 then .io
  else if a.toNat < 0xFFFF then .hram
  else .ie

/-- The registers of the I/O window (R90). -/
inductive IoReg where
  | div
  | tima
  | tma
  | tac
  | ifr
  | dma
  | vbk
  | svbk
  /-- A device-owned byte, by offset from 0xFF00 (R96). -/
  | device (k : Nat)
  deriving DecidableEq, Repr

/-- The register at offset `k` of the I/O window (R90). -/
def ioRegOf (k : Nat) : IoReg :=
  if k = 0x04 then .div
  else if k = 0x05 then .tima
  else if k = 0x06 then .tma
  else if k = 0x07 then .tac
  else if k = 0x0F then .ifr
  else if k = 0x46 then .dma
  else if k = 0x4F then .vbk
  else if k = 0x70 then .svbk
  else .device k

/-- Read an I/O register (R91 to R98). R97 and R98 state VBK and SVBK for both bank counts (log 15). -/
def ioRead (s : State) (r : IoReg) : Byte :=
  match r with
  | .div => hi s.timer.div
  | .tima => s.timer.tima
  | .tma => s.timer.tma
  | .tac => 0xF8#8 ||| s.timer.tac.setWidth 8
  | .ifr => 0xE0#8 ||| s.ifr.setWidth 8
  | .dma => s.dma
  | .vbk => 0xFE#8 ||| s.vbk.setWidth 8
  | .svbk => 0xF8#8 ||| s.svbk.setWidth 8
  | .device k => s.io.read k

/-- The index in `vram` that `a` (0x8000 to 0x9FFF) shows (R81). -/
def vramIndex (banks : VramBanks) (vbk : BitVec 1) (a : Word) : Nat :=
  (match banks with
    | .one => 0
    | .two => vbk.toNat) * 0x2000 + (a.toNat - 0x8000)

/-- The index in `wram` that `a` (0xD000 to 0xDFFF) shows (R84). -/
def wramIndex (banks : WramBanks) (svbk : BitVec 3) (a : Word) : Nat :=
  (match banks with
    | .two => 1
    | .eight => max 1 svbk.toNat) * 0x1000 + (a.toNat - 0xD000)

/-- `read_byte(a)`; it changes no state (R72). -/
def readByte (s : State) (a : Word) : Byte :=
  match regionOf a with
  | .rom => cartReadRom s a
  | .vram => s.vram.read (vramIndex s.cfg.vramBanks s.vbk a)
  | .cartRam => cartReadRam s a
  | .wramFixed => s.wram.read (a.toNat - 0xC000)
  | .wramBank => s.wram.read (wramIndex s.cfg.wramBanks s.svbk a)
  | .echo => 0xFF#8
  | .oam => s.oam.read (a.toNat - 0xFE00)
  | .unusable => 0xFF#8
  | .io => ioRead s (ioRegOf (a.toNat - 0xFF00))
  | .hram => s.hram.read (a.toNat - 0xFF80)
  | .ie => s.ie

/-- One byte of the DMA copy: `oam[i] <- read_byte((v * 0x100 + i) mod 0x10000)` (R95). -/
def dmaByte (v : Byte) (s : State) (i : Nat) : State :=
  { s with oam := s.oam.write i (readByte s (BitVec.ofNat 16 (v.toNat * 0x100 + i))) }

/-- The 160-byte copy, ascending (R95, R135). -/
def dmaCopy (v : Byte) (s : State) : State := (List.range 160).foldl (dmaByte v) s

/-- Write an I/O register (R91 to R98). -/
def ioWrite (s : State) (r : IoReg) (v : Byte) : State :=
  match r with
  | .div => { s with timer := { s.timer with div := 0#16, acc := 0 } }
  | .tima => { s with timer := { s.timer with tima := v } }
  | .tma => { s with timer := { s.timer with tma := v } }
  | .tac =>
    { s with
      timer :=
        { s.timer with
          tac := v.setWidth 3
          acc := if v.setWidth 2 = s.timer.tac.setWidth 2 then s.timer.acc else 0 } }
  | .ifr => { s with ifr := v.setWidth 5 }
  | .dma => dmaCopy v { s with dma := v }
  | .vbk => { s with vbk := v.setWidth 1 }
  | .svbk => { s with svbk := v.setWidth 3 }
  | .device k => { s with io := s.io.write k v }

/-- `write_byte(a, v)` (R73). -/
def writeByte (s : State) (a : Word) (v : Byte) : State :=
  match regionOf a with
  | .rom => cartWriteRom s a v
  | .vram => { s with vram := s.vram.write (vramIndex s.cfg.vramBanks s.vbk a) v }
  | .cartRam => cartWriteRam s a v
  | .wramFixed => { s with wram := s.wram.write (a.toNat - 0xC000) v }
  | .wramBank => { s with wram := s.wram.write (wramIndex s.cfg.wramBanks s.svbk a) v }
  | .echo => s
  | .oam => { s with oam := s.oam.write (a.toNat - 0xFE00) v }
  | .unusable => s
  | .io => ioWrite s (ioRegOf (a.toNat - 0xFF00)) v
  | .hram => { s with hram := s.hram.write (a.toNat - 0xFF80) v }
  | .ie => { s with ie := v }

/-- `read_word(a)`: the low byte at `a`, the high byte at `a + 1` (R74, R76). -/
def readWord (s : State) (a : Word) : Word := join (readByte s (a + 1#16)) (readByte s a)

/-- `write_word(a, v)`: the low byte to `a`, then the high byte to `a + 1` (R75, R76). -/
def writeWord (s : State) (a : Word) (v : Word) : State :=
  writeByte (writeByte s a (lo v)) (a + 1#16) (hi v)

end Sys2Proof.Machine
end

