-- ==== Sys2Proof/Machine/Flags.lean ====
section
/-! DEFINITION. The byte `F`, and every result and flag computation of the instruction set
(10_state.md R23 to R25; 41_load16_stack.md R203; 42_alu8.md; 43_alu16.md; 44_rotate_shift_bit.md). -/

namespace Sys2Proof.Machine

/-- `F = {Z, N, HF, CF, 0, 0, 0, 0}` (10_state.md R23, R24). -/
def Flags.toByte (f : Flags) : Byte :=
  BitVec.ofNat 8 (bitValue f.z * 0x80 + bitValue f.n * 0x40 + bitValue f.hf * 0x20 + bitValue f.cf * 0x10)

/-- The four flags of a byte loaded into `F`; bits 3:0 are discarded (41_load16_stack.md R208). -/
def Flags.ofByte (b : Byte) : Flags :=
  { z := b.getLsbD 7, n := b.getLsbD 6, hf := b.getLsbD 5, cf := b.getLsbD 4 }

/-- The sum `a + b + c` and its flags: ADD with `c = 0`, ADC with `c = CF` (42_alu8.md R220, R221, R224). -/
def add8 (a b : Byte) (c : Bool) : Byte × Flags :=
  let r := a.toNat + b.toNat + bitValue c
  (BitVec.ofNat 8 r,
    { z := decide (r % 256 = 0)
      n := false
      hf := decide (lowNibble a + lowNibble b + bitValue c > 0xF)
      cf := decide (r > 0xFF) })

/-- The difference `a - b - c` and its flags: SUB and CP with `c = 0`, SBC with `c = CF` (42_alu8.md R220, R227, R230, R242). -/
def sub8 (a b : Byte) (c : Bool) : Byte × Flags :=
  let r : Int := (a.toNat : Int) - (b.toNat : Int) - (bitValue c : Int)
  (BitVec.ofInt 8 r,
    { z := decide (r % 256 = 0)
      n := true
      hf := decide (lowNibble a < lowNibble b + bitValue c)
      cf := decide (a.toNat < b.toNat + bitValue c) })

/-- The result of a logical operation and its flags: Z from the result, N = 0, HF as given, CF = 0 (42_alu8.md R233, R236, R239). -/
def logic8 (r : Byte) (hf : Bool) : Byte × Flags :=
  (r, { z := decide (r = 0#8), n := false, hf := hf, cf := false })

/-- The new accumulator and flags of the eight ALU operations (30_encoding.md R147, 42_alu8.md R221 to R244). CP keeps A. -/
def alu (op : AluOp) (a b : Byte) (f : Flags) : Byte × Flags :=
  match op with
  | .add => add8 a b false
  | .adc => add8 a b f.cf
  | .sub => sub8 a b false
  | .sbc => sub8 a b f.cf
  | .and => logic8 (a &&& b) true
  | .xor => logic8 (a ^^^ b) false
  | .or => logic8 (a ||| b) false
  | .cp => (a, (sub8 a b false).2)

/-- INC of a byte: CF unchanged (42_alu8.md R245). -/
def inc8 (v : Byte) (f : Flags) : Byte × Flags :=
  (v + 1#8, { z := decide (v + 1#8 = 0#8), n := false, hf := decide (lowNibble v = 0xF), cf := f.cf })

/-- DEC of a byte: CF unchanged (42_alu8.md R247). -/
def dec8 (v : Byte) (f : Flags) : Byte × Flags :=
  (v - 1#8, { z := decide (v - 1#8 = 0#8), n := true, hf := decide (lowNibble v = 0), cf := f.cf })

/-- DAA's test for the 0x06 correction (42_alu8.md R249). -/
def daaLow (a : Byte) (f : Flags) : Bool := f.hf || (!f.n && decide (lowNibble a > 9))

/-- DAA's test for the 0x60 correction, on the unadjusted A (42_alu8.md R249). -/
def daaHigh (a : Byte) (f : Flags) : Bool := f.cf || (!f.n && decide (a.toNat > 0x99))

/-- DAA's correction `off` (42_alu8.md R249). -/
def daaOffset (a : Byte) (f : Flags) : Byte :=
  (if daaLow a f then 0x06#8 else 0x00#8) ||| (if daaHigh a f then 0x60#8 else 0x00#8)

/-- DAA (42_alu8.md R249): N unchanged, HF cleared. -/
def daa (a : Byte) (f : Flags) : Byte × Flags :=
  let r := if f.n then a - daaOffset a f else a + daaOffset a f
  (r, { z := decide (r = 0#8), n := f.n, hf := false, cf := f.cf || daaHigh a f })

/-- ADD HL,r16: the sum, carries out of bits 11 and 15, Z unchanged (43_alu16.md R260). -/
def add16 (x y : Word) (f : Flags) : Word × Flags :=
  (BitVec.ofNat 16 (x.toNat + y.toNat),
    { z := f.z
      n := false
      hf := decide (x.toNat % 0x1000 + y.toNat % 0x1000 > 0xFFF)
      cf := decide (x.toNat + y.toNat > 0xFFFF) })

/-- `SP + sext_16(b)` and the carries of the unsigned low-byte addition (41_load16_stack.md R203, 43_alu16.md R263). -/
def addSigned (sp : Word) (b : Byte) : Word × Flags :=
  (sp + sext16 b,
    { z := false
      n := false
      hf := decide (lowNibble (lo sp) + lowNibble b > 0xF)
      cf := decide ((lo sp).toNat + b.toNat > 0xFF) })

/-- The result byte and the bit shifted out of the eight rotate and shift operations (44_rotate_shift_bit.md R275 to R289). -/
def rotate (op : RotOp) (v : Byte) (cf : Bool) : Byte × Bool :=
  match op with
  | .rlc => (v.extractLsb' 0 7 ++ v.extractLsb' 7 1, v.getLsbD 7)
  | .rrc => (v.extractLsb' 0 1 ++ v.extractLsb' 1 7, v.getLsbD 0)
  | .rl => (v.extractLsb' 0 7 ++ BitVec.ofBool cf, v.getLsbD 7)
  | .rr => (BitVec.ofBool cf ++ v.extractLsb' 1 7, v.getLsbD 0)
  | .sla => (v.extractLsb' 0 7 ++ 0#1, v.getLsbD 7)
  | .sra => (v.extractLsb' 7 1 ++ v.extractLsb' 1 7, v.getLsbD 0)
  | .swap => (v.extractLsb' 0 4 ++ v.extractLsb' 4 4, false)
  | .srl => (0#1 ++ v.extractLsb' 1 7, v.getLsbD 0)

/-- A rotate or shift of the secondary table: Z from the result, N = HF = 0, CF the bit shifted out (44_rotate_shift_bit.md R275). -/
def rotFlags (r : Byte × Bool) : Byte × Flags :=
  (r.1, { z := decide (r.1 = 0#8), n := false, hf := false, cf := r.2 })

/-- A one-byte accumulator rotate: Z is cleared (44_rotate_shift_bit.md R270 to R273). -/
def rotAFlags (r : Byte × Bool) : Byte × Flags :=
  (r.1, { z := false, n := false, hf := false, cf := r.2 })

/-- BIT b: Z the complement of the bit, N = 0, HF = 1, CF unchanged (44_rotate_shift_bit.md R291). -/
def bitFlags (b : BitVec 3) (v : Byte) (f : Flags) : Flags :=
  { z := !v.getLsbD b.toNat, n := false, hf := true, cf := f.cf }

end Sys2Proof.Machine
end

