-- ==== Sys2Proof/Machine/Operands.lean ====
section
/-! DEFINITION. The operand forms: registers, pairs, conditions (10_state.md R21, R22; 30_encoding.md R144 to R146). -/

namespace Sys2Proof.Machine

/-- A register of the file (10_state.md R20, R21). -/
def Regs.get (g : Regs) : Reg8 → Byte
  | .b => g.b
  | .c => g.c
  | .d => g.d
  | .e => g.e
  | .h => g.h
  | .l => g.l
  | .a => g.a

/-- The file with one register written. -/
def Regs.set (g : Regs) (r : Reg8) (v : Byte) : Regs :=
  match r with
  | .b => { g with b := v }
  | .c => { g with c := v }
  | .d => { g with d := v }
  | .e => { g with e := v }
  | .h => { g with h := v }
  | .l => { g with l := v }
  | .a => { g with a := v }

/-- `r8[i]`, `i` not 6 (30_encoding.md R144). -/
def r8 (s : State) (r : Reg8) : Byte := s.regs.get r

/-- `r8[i] <- v`, `i` not 6 (30_encoding.md R144). -/
def setR8 (r : Reg8) (v : Byte) (s : State) : State := { s with regs := s.regs.set r v }

/-- `HL = {H, L}` (10_state.md R22). -/
def hl (s : State) : Word := join s.regs.h s.regs.l

/-- `BC = {B, C}` (10_state.md R22). -/
def bc (s : State) : Word := join s.regs.b s.regs.c

/-- `DE = {D, E}` (10_state.md R22). -/
def de (s : State) : Word := join s.regs.d s.regs.e

/-- `AF = {A, F}` (10_state.md R22). -/
def af (s : State) : Word := join s.regs.a s.f.toByte

/-- `HL <- v` (00_scope.md R15). -/
def setHl (v : Word) (s : State) : State := { s with regs := { s.regs with h := hi v, l := lo v } }

/-- `BC <- v`. -/
def setBc (v : Word) (s : State) : State := { s with regs := { s.regs with b := hi v, c := lo v } }

/-- `DE <- v`. -/
def setDe (v : Word) (s : State) : State := { s with regs := { s.regs with d := hi v, e := lo v } }

/-- `AF <- v`: bits 3:0 of the low byte are discarded (41_load16_stack.md R208). -/
def setAf (v : Word) (s : State) : State :=
  { s with regs := { s.regs with a := hi v }, f := Flags.ofByte (lo v) }

/-- `r16[p]` (30_encoding.md R145). -/
def r16 (s : State) : Reg16 → Word
  | .bc => bc s
  | .de => de s
  | .hl => hl s
  | .sp => s.sp

/-- `r16[p] <- v` (30_encoding.md R145). -/
def setR16 (r : Reg16) (v : Word) (s : State) : State :=
  match r with
  | .bc => setBc v s
  | .de => setDe v s
  | .hl => setHl v s
  | .sp => { s with sp := v }

/-- `r16stk[p]` (30_encoding.md R145). -/
def r16stk (s : State) : Reg16Stk → Word
  | .bc => bc s
  | .de => de s
  | .hl => hl s
  | .af => af s

/-- `r16stk[p] <- v` (30_encoding.md R145, 41_load16_stack.md R207, R208). -/
def setR16stk (r : Reg16Stk) (v : Word) (s : State) : State :=
  match r with
  | .bc => setBc v s
  | .de => setDe v s
  | .hl => setHl v s
  | .af => setAf v s

/-- `cond(cc)` (30_encoding.md R146). -/
def cond (cc : Cond) (f : Flags) : Bool :=
  match cc with
  | .nz => !f.z
  | .z => f.z
  | .nc => !f.cf
  | .c => f.cf

/-- A result for A together with the flags. -/
def setAF8 (r : Byte × Flags) (s : State) : State := { s with regs := { s.regs with a := r.1 }, f := r.2 }

/-- A result for a register together with the flags. -/
def setR8F (rd : Reg8) (r : Byte × Flags) (s : State) : State := { s with regs := s.regs.set rd r.1, f := r.2 }

/-- A result for the byte at HL together with the flags: one bus write (42_alu8.md R246, 44_rotate_shift_bit.md R274). -/
def setMemF (a : Word) (r : Byte × Flags) (s : State) : State := { writeByte s a r.1 with f := r.2 }

end Sys2Proof.Machine
end

