-- ==== Sys2Proof/Machine/Ops.lean ====
section
/-! DEFINITION. The shared operations: the frame of a CPU step (30_encoding.md R140), the stack primitives
(41_load16_stack.md R205, R206), taking an exception and returning from one (60_exceptions.md R340, R353, R355, R357). -/

namespace Sys2Proof.Machine

/-- What a meaning answers. -/
abbrev Result := Host.Outcome State Fault Refusal

/-- PC once all `len` bytes of an instruction have been fetched: a pending HALT bug leaves the opcode fetch's increment out
(30_encoding.md R140, R141; 46_cpu_control.md R323). -/
def pcAfter (s : State) (len : Nat) : Word :=
  s.pc + BitVec.ofNat 16 (if s.haltBug then len - 1 else len)

/-- The start of a CPU step and its fetches: `ime_pending` sampled and cleared, `halt_bug` cleared, PC past the
instruction (30_encoding.md R140). -/
def beginStep (len : Nat) (s : State) : State :=
  { s with imePending := false, haltBug := false, pc := pcAfter s len }

/-- The end of a CPU step: IME is set if the enable was promoted, and the cost is reported (30_encoding.md R140). -/
def finishStep (promote : Bool) (cost : Nat) (s : State) : State :=
  { s with ime := s.ime || promote, cost := cost }

/-- One whole CPU step of an instruction of `len` bytes that reports `cost` and whose Operation is `body`
(30_encoding.md R140, R155). -/
def retire (len cost : Nat) (body : State → State) (s : State) : Result :=
  .next (finishStep s.imePending cost (body (beginStep len s)))

/-- The cost of a conditional transfer: one of two, by the condition (30_encoding.md R155). -/
def branchCost (cc : Cond) (s : State) (taken notTaken : Nat) : Nat :=
  if cond cc s.f then taken else notTaken

/-- `push16(v)` (41_load16_stack.md R205). -/
def push16 (v : Word) (s : State) : State :=
  writeWord { s with sp := s.sp - 2#16 } (s.sp - 2#16) v

/-- The value `pop16()` returns (41_load16_stack.md R206). -/
def popValue (s : State) : Word := readWord s s.sp

/-- The stack pointer's move of `pop16()` (41_load16_stack.md R206). -/
def popSp (s : State) : State := { s with sp := s.sp + 2#16 }

/-- `PC <- pop16()`: the return of RET, RET cc and RETI (45_control_flow.md R307, 60_exceptions.md R357). -/
def returnPc (s : State) : State := { popSp s with pc := popValue s }

/-- Trap entry for interrupt source `i`: the request bit and IME are cleared, PC is pushed, PC goes to the vector
`0x0040 + 8 * i`, in that order (60_exceptions.md R350, R353, R355). -/
def dispatchInterrupt (i : Nat) (s : State) : State :=
  { push16 s.pc { s with ifr := s.ifr &&& ~~~(1#5 <<< i), ime := false } with
    pc := BitVec.ofNat 16 (0x0040 + 8 * i) }

/-- `raise UnimplementedOpcode(op, pc)` in the state before the CPU step: the pair is recorded and every other item keeps
its value (60_exceptions.md R340, 46_cpu_control.md R328; log 9, DESIGN CHOICE, safe). -/
def raiseUnimplemented (op : Byte) (s : State) : Result := .next { s with fault := some (op, s.pc) }

/-- The set of pending sources, `IF & IE & 0x1F` (60_exceptions.md R352). -/
def pending (s : State) : BitVec 5 := s.ifr &&& s.ie.setWidth 5

end Sys2Proof.Machine
end

