-- ==== Sys2Proof/Machine/Devices.lean ====
section
/-! DEFINITION. What a machine step does around the CPU step: the timer tick, the notification of the collaborators, the
interrupt step (60_exceptions.md R350 to R384). -/

namespace Sys2Proof.Machine

/-- The timer threshold of a selector value (60_exceptions.md R370). -/
def threshold (sel : BitVec 2) : Nat :=
  match sel.toNat with
  | 0 => 1024
  | 1 => 16
  | 2 => 64
  | _ => 256

/-- The threshold TAC selects. -/
def Timer.period (t : Timer) : Nat := threshold (t.tac.setWidth 2)

/-- `request(i)`: `IF[i] <- 1` (60_exceptions.md R351). -/
def request (i : Nat) (s : State) : State := { s with ifr := s.ifr ||| (1#5 <<< i) }

/-- One TIMA increment: past 0xFF it reloads from TMA and requests source 2, at once (60_exceptions.md R371). -/
def timaIncrement (s : State) : State :=
  if s.timer.tima = 0xFF#8 then request 2 { s with timer := { s.timer with tima := s.timer.tma } }
  else { s with timer := { s.timer with tima := s.timer.tima + 1#8 } }

/-- `n` TIMA increments, one after the other. -/
def timaIncrements : Nat → State → State
  | 0, s => s
  | n + 1, s => timaIncrements n (timaIncrement s)

/-- `TimerTick(c)` (60_exceptions.md R371). The loop `while tima_acc >= T` runs `(tima_acc + c) / T` times and leaves
the remainder in `tima_acc` (log 19, DEDUCED, safe). -/
def timerTick (c : Nat) (s : State) : State :=
  let t := { s.timer with div := s.timer.div + BitVec.ofNat 16 c }
  if s.timer.tac.getLsbD 2 then
    timaIncrements ((s.timer.acc + c) / s.timer.period)
      { s with timer := { t with acc := (s.timer.acc + c) % s.timer.period } }
  else { s with timer := t }

/-- A collaborator changes one device-owned byte; the core-owned offsets are not its to change (20_memory.md R96,
60_exceptions.md R384). -/
def envByte (s : State) (u : BitVec 7 × Byte) : State :=
  match ioRegOf u.1.toNat with
  | .device k => { s with io := s.io.write k u.2 }
  | _ => s

/-- `request(i)` if the collaborators ask for it. -/
def requestIf (c : Bool) (i : Nat) (s : State) : State := if c then request i s else s

/-- The collaborators' answer to one notification (60_exceptions.md R384 points 4 and 5; log 22, DESIGN CHOICE, safe). They
write neither video RAM nor object memory (90_conflicts.md C7; log 12, DEDUCED, unsafe). -/
def applyAnswer (e : EnvAnswer) (s : State) : State :=
  requestIf e.vblank 0 (requestIf e.lcdStatus 1 (requestIf e.serial 3 (requestIf e.joypad 4
    (e.bytes.foldl envByte s))))

/-- `EnvNotify(c)`: the next answer of the environment; with none left it does nothing (60_exceptions.md R380, R384, log 11, DESIGN CHOICE, safe).
The cost notified is `s.cost`. -/
def envNotify (s : State) : State :=
  match s.env with
  | [] => s
  | e :: rest => applyAnswer e { s with env := rest }

/-- The smallest `j` in 0..4 with `p[j] = 1` (60_exceptions.md R353); 4 if there is none below. -/
def lowestSource (p : BitVec 5) : Nat :=
  if p.getLsbD 0 then 0
  else if p.getLsbD 1 then 1
  else if p.getLsbD 2 then 2
  else if p.getLsbD 3 then 3
  else 4

/-- `InterruptStep()`: the state after it, and the dispatch cost 20 or none (60_exceptions.md R353, R359). -/
def interruptStep (s : State) : State × Option Nat :=
  if pending s = 0#5 then (s, none)
  else if s.ime then (dispatchInterrupt (lowestSource (pending s)) { s with halted := false }, some 20)
  else ({ s with halted := false }, none)

/-- What a machine step does after a CPU step that reported `s.cost`: tick, notification, interrupt step; the machine
step returns `c + d` (60_exceptions.md R380). -/
def afterCpuStep (s : State) : State :=
  let r := interruptStep (envNotify (timerTick s.cost s))
  { r.1 with cycles := s.cost + r.2.getD 0 }

/-- The phantom step of a halted CPU: no fetch, no change, no promotion of the enable latch, cost 4 (30_encoding.md R140,
46_cpu_control.md R321; log 13, DEDUCED, safe). -/
def phantomStep (s : State) : State := { s with cost := 4 }

end Sys2Proof.Machine
end

