-- ==== Sys2Proof/Machine/Alu16.lean ====
section
/-! DEFINITION. The meanings of the 16-bit arithmetic (43_alu16.md R260 to R264). -/

namespace Sys2Proof.Machine

/-- ADD HL,r16 (43_alu16.md R260). -/
def addHl (r : Reg16) (u : State) : State :=
  { setHl (add16 (hl u) (r16 u r) u.f).1 u with f := (add16 (hl u) (r16 u r) u.f).2 }

/-- `r16[p] <- (r16[p] + 1) mod 0x10000` (43_alu16.md R261). -/
def incR16 (r : Reg16) (u : State) : State := setR16 r (r16 u r + 1#16) u

/-- `r16[p] <- (r16[p] - 1) mod 0x10000` (43_alu16.md R262). -/
def decR16 (r : Reg16) (u : State) : State := setR16 r (r16 u r - 1#16) u

/-- ADD SP,e8 (43_alu16.md R263). -/
def addSp (b : Byte) (u : State) : State := { u with sp := (addSigned u.sp b).1, f := (addSigned u.sp b).2 }

/-- INC BC (R261). -/
def execIncBc (s : State) : Result := retire 1 8 (incR16 .bc) s

/-- ADD HL,BC (R260). -/
def execAddHlBc (s : State) : Result := retire 1 8 (addHl .bc) s

/-- DEC BC (R262). -/
def execDecBc (s : State) : Result := retire 1 8 (decR16 .bc) s

/-- INC DE (R261). -/
def execIncDe (s : State) : Result := retire 1 8 (incR16 .de) s

/-- ADD HL,DE (R260). -/
def execAddHlDe (s : State) : Result := retire 1 8 (addHl .de) s

/-- DEC DE (R262). -/
def execDecDe (s : State) : Result := retire 1 8 (decR16 .de) s

/-- INC HL (R261). -/
def execIncHl (s : State) : Result := retire 1 8 (incR16 .hl) s

/-- ADD HL,HL (R260). -/
def execAddHlHl (s : State) : Result := retire 1 8 (addHl .hl) s

/-- DEC HL (R262). -/
def execDecHl (s : State) : Result := retire 1 8 (decR16 .hl) s

/-- INC SP (R261). -/
def execIncSp (s : State) : Result := retire 1 8 (incR16 .sp) s

/-- ADD HL,SP (R260). -/
def execAddHlSp (s : State) : Result := retire 1 8 (addHl .sp) s

/-- DEC SP (R262). -/
def execDecSp (s : State) : Result := retire 1 8 (decR16 .sp) s

/-- ADD SP,e8 (R263). -/
def execAddSpE8 (e : Byte) (s : State) : Result := retire 2 16 (addSp e) s

end Sys2Proof.Machine
end

