-- ==== Sys2Proof/Machine/Alu8.lean ====
section
/-! DEFINITION. The meanings of the 8-bit arithmetic and logic (42_alu8.md R220 to R253). -/

namespace Sys2Proof.Machine

/-- An ALU operation on A and `b` (42_alu8.md R221 to R244). -/
def aluV (op : AluOp) (b : Byte) (u : State) : State := setAF8 (alu op u.regs.a b u.f) u

/-- An ALU operation on A and a register (42_alu8.md R221, R224, R227, R230, R233, R236, R239, R242). -/
def aluR (op : AluOp) (r : Reg8) (u : State) : State := aluV op (r8 u r) u

/-- An ALU operation on A and the byte at HL (42_alu8.md R222, R225, R228, R231, R234, R237, R240, R243). -/
def aluHl (op : AluOp) (u : State) : State := aluV op (readByte u (hl u)) u

/-- INC r8 (42_alu8.md R245). -/
def incR (rd : Reg8) (u : State) : State := setR8F rd (inc8 (r8 u rd) u.f) u

/-- DEC r8 (42_alu8.md R247). -/
def decR (rd : Reg8) (u : State) : State := setR8F rd (dec8 (r8 u rd) u.f) u

/-- INC (HL): one bus read, one bus write (42_alu8.md R246). -/
def incHl (u : State) : State := setMemF (hl u) (inc8 (readByte u (hl u)) u.f) u

/-- DEC (HL): one bus read, one bus write (42_alu8.md R248). -/
def decHl (u : State) : State := setMemF (hl u) (dec8 (readByte u (hl u)) u.f) u

/-- DAA (42_alu8.md R249). -/
def daaA (u : State) : State := setAF8 (daa u.regs.a u.f) u

/-- CPL (42_alu8.md R250). -/
def cplA (u : State) : State := setAF8 (u.regs.a ^^^ 0xFF#8, { u.f with n := true, hf := true }) u

/-- SCF (42_alu8.md R251). -/
def setCarry (u : State) : State := { u with f := { u.f with n := false, hf := false, cf := true } }

/-- CCF (42_alu8.md R252). -/
def flipCarry (u : State) : State := { u with f := { u.f with n := false, hf := false, cf := !u.f.cf } }

/-- INC B (R245). -/
def execIncB (s : State) : Result := retire 1 4 (incR .b) s

/-- DEC B (R247). -/
def execDecB (s : State) : Result := retire 1 4 (decR .b) s

/-- INC C (R245). -/
def execIncC (s : State) : Result := retire 1 4 (incR .c) s

/-- DEC C (R247). -/
def execDecC (s : State) : Result := retire 1 4 (decR .c) s

/-- INC D (R245). -/
def execIncD (s : State) : Result := retire 1 4 (incR .d) s

/-- DEC D (R247). -/
def execDecD (s : State) : Result := retire 1 4 (decR .d) s

/-- INC E (R245). -/
def execIncE (s : State) : Result := retire 1 4 (incR .e) s

/-- DEC E (R247). -/
def execDecE (s : State) : Result := retire 1 4 (decR .e) s

/-- INC H (R245). -/
def execIncH (s : State) : Result := retire 1 4 (incR .h) s

/-- DEC H (R247). -/
def execDecH (s : State) : Result := retire 1 4 (decR .h) s

/-- DAA (R249). -/
def execDaa (s : State) : Result := retire 1 4 daaA s

/-- INC L (R245). -/
def execIncL (s : State) : Result := retire 1 4 (incR .l) s

/-- DEC L (R247). -/
def execDecL (s : State) : Result := retire 1 4 (decR .l) s

/-- CPL (R250). -/
def execCpl (s : State) : Result := retire 1 4 cplA s

/-- INC (HL) (R246). -/
def execIncIndHl (s : State) : Result := retire 1 12 incHl s

/-- DEC (HL) (R248). -/
def execDecIndHl (s : State) : Result := retire 1 12 decHl s

/-- SCF (R251). -/
def execScf (s : State) : Result := retire 1 4 setCarry s

/-- INC A (R245). -/
def execIncA (s : State) : Result := retire 1 4 (incR .a) s

/-- DEC A (R247). -/
def execDecA (s : State) : Result := retire 1 4 (decR .a) s

/-- CCF (R252). -/
def execCcf (s : State) : Result := retire 1 4 flipCarry s

/-- ADD A,B (R221). -/
def execAddAB (s : State) : Result := retire 1 4 (aluR .add .b) s

/-- ADD A,C (R221). -/
def execAddAC (s : State) : Result := retire 1 4 (aluR .add .c) s

/-- ADD A,D (R221). -/
def execAddAD (s : State) : Result := retire 1 4 (aluR .add .d) s

/-- ADD A,E (R221). -/
def execAddAE (s : State) : Result := retire 1 4 (aluR .add .e) s

/-- ADD A,H (R221). -/
def execAddAH (s : State) : Result := retire 1 4 (aluR .add .h) s

/-- ADD A,L (R221). -/
def execAddAL (s : State) : Result := retire 1 4 (aluR .add .l) s

/-- ADD A,(HL) (R222). -/
def execAddAIndHl (s : State) : Result := retire 1 8 (aluHl .add) s

/-- ADD A,A (R221). -/
def execAddAA (s : State) : Result := retire 1 4 (aluR .add .a) s

/-- ADC A,B (R224). -/
def execAdcAB (s : State) : Result := retire 1 4 (aluR .adc .b) s

/-- ADC A,C (R224). -/
def execAdcAC (s : State) : Result := retire 1 4 (aluR .adc .c) s

/-- ADC A,D (R224). -/
def execAdcAD (s : State) : Result := retire 1 4 (aluR .adc .d) s

/-- ADC A,E (R224). -/
def execAdcAE (s : State) : Result := retire 1 4 (aluR .adc .e) s

/-- ADC A,H (R224). -/
def execAdcAH (s : State) : Result := retire 1 4 (aluR .adc .h) s

/-- ADC A,L (R224). -/
def execAdcAL (s : State) : Result := retire 1 4 (aluR .adc .l) s

/-- ADC A,(HL) (R225). -/
def execAdcAIndHl (s : State) : Result := retire 1 8 (aluHl .adc) s

/-- ADC A,A (R224). -/
def execAdcAA (s : State) : Result := retire 1 4 (aluR .adc .a) s

/-- SUB A,B (R227). -/
def execSubAB (s : State) : Result := retire 1 4 (aluR .sub .b) s

/-- SUB A,C (R227). -/
def execSubAC (s : State) : Result := retire 1 4 (aluR .sub .c) s

/-- SUB A,D (R227). -/
def execSubAD (s : State) : Result := retire 1 4 (aluR .sub .d) s

/-- SUB A,E (R227). -/
def execSubAE (s : State) : Result := retire 1 4 (aluR .sub .e) s

/-- SUB A,H (R227). -/
def execSubAH (s : State) : Result := retire 1 4 (aluR .sub .h) s

/-- SUB A,L (R227). -/
def execSubAL (s : State) : Result := retire 1 4 (aluR .sub .l) s

/-- SUB A,(HL) (R228). -/
def execSubAIndHl (s : State) : Result := retire 1 8 (aluHl .sub) s

/-- SUB A,A (R227). -/
def execSubAA (s : State) : Result := retire 1 4 (aluR .sub .a) s

/-- SBC A,B (R230). -/
def execSbcAB (s : State) : Result := retire 1 4 (aluR .sbc .b) s

/-- SBC A,C (R230). -/
def execSbcAC (s : State) : Result := retire 1 4 (aluR .sbc .c) s

/-- SBC A,D (R230). -/
def execSbcAD (s : State) : Result := retire 1 4 (aluR .sbc .d) s

/-- SBC A,E (R230). -/
def execSbcAE (s : State) : Result := retire 1 4 (aluR .sbc .e) s

/-- SBC A,H (R230). -/
def execSbcAH (s : State) : Result := retire 1 4 (aluR .sbc .h) s

/-- SBC A,L (R230). -/
def execSbcAL (s : State) : Result := retire 1 4 (aluR .sbc .l) s

/-- SBC A,(HL) (R231). -/
def execSbcAIndHl (s : State) : Result := retire 1 8 (aluHl .sbc) s

/-- SBC A,A (R230). -/
def execSbcAA (s : State) : Result := retire 1 4 (aluR .sbc .a) s

/-- AND A,B (R233). -/
def execAndAB (s : State) : Result := retire 1 4 (aluR .and .b) s

/-- AND A,C (R233). -/
def execAndAC (s : State) : Result := retire 1 4 (aluR .and .c) s

/-- AND A,D (R233). -/
def execAndAD (s : State) : Result := retire 1 4 (aluR .and .d) s

/-- AND A,E (R233). -/
def execAndAE (s : State) : Result := retire 1 4 (aluR .and .e) s

/-- AND A,H (R233). -/
def execAndAH (s : State) : Result := retire 1 4 (aluR .and .h) s

/-- AND A,L (R233). -/
def execAndAL (s : State) : Result := retire 1 4 (aluR .and .l) s

/-- AND A,(HL) (R234). -/
def execAndAIndHl (s : State) : Result := retire 1 8 (aluHl .and) s

/-- AND A,A (R233). -/
def execAndAA (s : State) : Result := retire 1 4 (aluR .and .a) s

/-- XOR A,B (R236). -/
def execXorAB (s : State) : Result := retire 1 4 (aluR .xor .b) s

/-- XOR A,C (R236). -/
def execXorAC (s : State) : Result := retire 1 4 (aluR .xor .c) s

/-- XOR A,D (R236). -/
def execXorAD (s : State) : Result := retire 1 4 (aluR .xor .d) s

/-- XOR A,E (R236). -/
def execXorAE (s : State) : Result := retire 1 4 (aluR .xor .e) s

/-- XOR A,H (R236). -/
def execXorAH (s : State) : Result := retire 1 4 (aluR .xor .h) s

/-- XOR A,L (R236). -/
def execXorAL (s : State) : Result := retire 1 4 (aluR .xor .l) s

/-- XOR A,(HL) (R237). -/
def execXorAIndHl (s : State) : Result := retire 1 8 (aluHl .xor) s

/-- XOR A,A (R236). -/
def execXorAA (s : State) : Result := retire 1 4 (aluR .xor .a) s

/-- OR A,B (R239). -/
def execOrAB (s : State) : Result := retire 1 4 (aluR .or .b) s

/-- OR A,C (R239). -/
def execOrAC (s : State) : Result := retire 1 4 (aluR .or .c) s

/-- OR A,D (R239). -/
def execOrAD (s : State) : Result := retire 1 4 (aluR .or .d) s

/-- OR A,E (R239). -/
def execOrAE (s : State) : Result := retire 1 4 (aluR .or .e) s

/-- OR A,H (R239). -/
def execOrAH (s : State) : Result := retire 1 4 (aluR .or .h) s

/-- OR A,L (R239). -/
def execOrAL (s : State) : Result := retire 1 4 (aluR .or .l) s

/-- OR A,(HL) (R240). -/
def execOrAIndHl (s : State) : Result := retire 1 8 (aluHl .or) s

/-- OR A,A (R239). -/
def execOrAA (s : State) : Result := retire 1 4 (aluR .or .a) s

/-- CP A,B (R242). -/
def execCpAB (s : State) : Result := retire 1 4 (aluR .cp .b) s

/-- CP A,C (R242). -/
def execCpAC (s : State) : Result := retire 1 4 (aluR .cp .c) s

/-- CP A,D (R242). -/
def execCpAD (s : State) : Result := retire 1 4 (aluR .cp .d) s

/-- CP A,E (R242). -/
def execCpAE (s : State) : Result := retire 1 4 (aluR .cp .e) s

/-- CP A,H (R242). -/
def execCpAH (s : State) : Result := retire 1 4 (aluR .cp .h) s

/-- CP A,L (R242). -/
def execCpAL (s : State) : Result := retire 1 4 (aluR .cp .l) s

/-- CP A,(HL) (R243). -/
def execCpAIndHl (s : State) : Result := retire 1 8 (aluHl .cp) s

/-- CP A,A (R242). -/
def execCpAA (s : State) : Result := retire 1 4 (aluR .cp .a) s

/-- ADD A,d8 (R223). -/
def execAddAD8 (v : Byte) (s : State) : Result := retire 2 8 (aluV .add v) s

/-- ADC A,d8 (R226). -/
def execAdcAD8 (v : Byte) (s : State) : Result := retire 2 8 (aluV .adc v) s

/-- SUB A,d8 (R229). -/
def execSubAD8 (v : Byte) (s : State) : Result := retire 2 8 (aluV .sub v) s

/-- SBC A,d8 (R232). -/
def execSbcAD8 (v : Byte) (s : State) : Result := retire 2 8 (aluV .sbc v) s

/-- AND A,d8 (R235). -/
def execAndAD8 (v : Byte) (s : State) : Result := retire 2 8 (aluV .and v) s

/-- XOR A,d8 (R238). -/
def execXorAD8 (v : Byte) (s : State) : Result := retire 2 8 (aluV .xor v) s

/-- OR A,d8 (R241). -/
def execOrAD8 (v : Byte) (s : State) : Result := retire 2 8 (aluV .or v) s

/-- CP A,d8 (R244). -/
def execCpAD8 (v : Byte) (s : State) : Result := retire 2 8 (aluV .cp v) s

end Sys2Proof.Machine
end

