-- ==== Sys2Proof/Machine/BitOps.lean ====
section
/-! DEFINITION. The meanings of the bit operations (44_rotate_shift_bit.md R291 to R296). -/

namespace Sys2Proof.Machine

/-- BIT b,r8 (44_rotate_shift_bit.md R291). -/
def bitR (b : BitVec 3) (t : Reg8) (u : State) : State := { u with f := bitFlags b (r8 u t) u.f }

/-- BIT b,(HL): memory is not written (44_rotate_shift_bit.md R292). -/
def bitHl (b : BitVec 3) (u : State) : State := { u with f := bitFlags b (readByte u (hl u)) u.f }

/-- RES b,r8 (44_rotate_shift_bit.md R293). -/
def resR (b : BitVec 3) (t : Reg8) (u : State) : State := setR8 t (r8 u t &&& ~~~oneHot b) u

/-- RES b,(HL) (44_rotate_shift_bit.md R294). -/
def resHl (b : BitVec 3) (u : State) : State := writeByte u (hl u) (readByte u (hl u) &&& ~~~oneHot b)

/-- SET b,r8 (44_rotate_shift_bit.md R295). -/
def setR (b : BitVec 3) (t : Reg8) (u : State) : State := setR8 t (r8 u t ||| oneHot b) u

/-- SET b,(HL) (44_rotate_shift_bit.md R296). -/
def setHlBit (b : BitVec 3) (u : State) : State := writeByte u (hl u) (readByte u (hl u) ||| oneHot b)

/-- BIT 0,B (R291). -/
def execBit0B (s : State) : Result := retire 2 8 (bitR 0#3 .b) s

/-- BIT 0,C (R291). -/
def execBit0C (s : State) : Result := retire 2 8 (bitR 0#3 .c) s

/-- BIT 0,D (R291). -/
def execBit0D (s : State) : Result := retire 2 8 (bitR 0#3 .d) s

/-- BIT 0,E (R291). -/
def execBit0E (s : State) : Result := retire 2 8 (bitR 0#3 .e) s

/-- BIT 0,H (R291). -/
def execBit0H (s : State) : Result := retire 2 8 (bitR 0#3 .h) s

/-- BIT 0,L (R291). -/
def execBit0L (s : State) : Result := retire 2 8 (bitR 0#3 .l) s

/-- BIT 0,(HL) (R292). -/
def execBit0IndHl (s : State) : Result := retire 2 12 (bitHl 0#3) s

/-- BIT 0,A (R291). -/
def execBit0A (s : State) : Result := retire 2 8 (bitR 0#3 .a) s

/-- BIT 1,B (R291). -/
def execBit1B (s : State) : Result := retire 2 8 (bitR 1#3 .b) s

/-- BIT 1,C (R291). -/
def execBit1C (s : State) : Result := retire 2 8 (bitR 1#3 .c) s

/-- BIT 1,D (R291). -/
def execBit1D (s : State) : Result := retire 2 8 (bitR 1#3 .d) s

/-- BIT 1,E (R291). -/
def execBit1E (s : State) : Result := retire 2 8 (bitR 1#3 .e) s

/-- BIT 1,H (R291). -/
def execBit1H (s : State) : Result := retire 2 8 (bitR 1#3 .h) s

/-- BIT 1,L (R291). -/
def execBit1L (s : State) : Result := retire 2 8 (bitR 1#3 .l) s

/-- BIT 1,(HL) (R292). -/
def execBit1IndHl (s : State) : Result := retire 2 12 (bitHl 1#3) s

/-- BIT 1,A (R291). -/
def execBit1A (s : State) : Result := retire 2 8 (bitR 1#3 .a) s

/-- BIT 2,B (R291). -/
def execBit2B (s : State) : Result := retire 2 8 (bitR 2#3 .b) s

/-- BIT 2,C (R291). -/
def execBit2C (s : State) : Result := retire 2 8 (bitR 2#3 .c) s

/-- BIT 2,D (R291). -/
def execBit2D (s : State) : Result := retire 2 8 (bitR 2#3 .d) s

/-- BIT 2,E (R291). -/
def execBit2E (s : State) : Result := retire 2 8 (bitR 2#3 .e) s

/-- BIT 2,H (R291). -/
def execBit2H (s : State) : Result := retire 2 8 (bitR 2#3 .h) s

/-- BIT 2,L (R291). -/
def execBit2L (s : State) : Result := retire 2 8 (bitR 2#3 .l) s

/-- BIT 2,(HL) (R292). -/
def execBit2IndHl (s : State) : Result := retire 2 12 (bitHl 2#3) s

/-- BIT 2,A (R291). -/
def execBit2A (s : State) : Result := retire 2 8 (bitR 2#3 .a) s

/-- BIT 3,B (R291). -/
def execBit3B (s : State) : Result := retire 2 8 (bitR 3#3 .b) s

/-- BIT 3,C (R291). -/
def execBit3C (s : State) : Result := retire 2 8 (bitR 3#3 .c) s

/-- BIT 3,D (R291). -/
def execBit3D (s : State) : Result := retire 2 8 (bitR 3#3 .d) s

/-- BIT 3,E (R291). -/
def execBit3E (s : State) : Result := retire 2 8 (bitR 3#3 .e) s

/-- BIT 3,H (R291). -/
def execBit3H (s : State) : Result := retire 2 8 (bitR 3#3 .h) s

/-- BIT 3,L (R291). -/
def execBit3L (s : State) : Result := retire 2 8 (bitR 3#3 .l) s

/-- BIT 3,(HL) (R292). -/
def execBit3IndHl (s : State) : Result := retire 2 12 (bitHl 3#3) s

/-- BIT 3,A (R291). -/
def execBit3A (s : State) : Result := retire 2 8 (bitR 3#3 .a) s

/-- BIT 4,B (R291). -/
def execBit4B (s : State) : Result := retire 2 8 (bitR 4#3 .b) s

/-- BIT 4,C (R291). -/
def execBit4C (s : State) : Result := retire 2 8 (bitR 4#3 .c) s

/-- BIT 4,D (R291). -/
def execBit4D (s : State) : Result := retire 2 8 (bitR 4#3 .d) s

/-- BIT 4,E (R291). -/
def execBit4E (s : State) : Result := retire 2 8 (bitR 4#3 .e) s

/-- BIT 4,H (R291). -/
def execBit4H (s : State) : Result := retire 2 8 (bitR 4#3 .h) s

/-- BIT 4,L (R291). -/
def execBit4L (s : State) : Result := retire 2 8 (bitR 4#3 .l) s

/-- BIT 4,(HL) (R292). -/
def execBit4IndHl (s : State) : Result := retire 2 12 (bitHl 4#3) s

/-- BIT 4,A (R291). -/
def execBit4A (s : State) : Result := retire 2 8 (bitR 4#3 .a) s

/-- BIT 5,B (R291). -/
def execBit5B (s : State) : Result := retire 2 8 (bitR 5#3 .b) s

/-- BIT 5,C (R291). -/
def execBit5C (s : State) : Result := retire 2 8 (bitR 5#3 .c) s

/-- BIT 5,D (R291). -/
def execBit5D (s : State) : Result := retire 2 8 (bitR 5#3 .d) s

/-- BIT 5,E (R291). -/
def execBit5E (s : State) : Result := retire 2 8 (bitR 5#3 .e) s

/-- BIT 5,H (R291). -/
def execBit5H (s : State) : Result := retire 2 8 (bitR 5#3 .h) s

/-- BIT 5,L (R291). -/
def execBit5L (s : State) : Result := retire 2 8 (bitR 5#3 .l) s

/-- BIT 5,(HL) (R292). -/
def execBit5IndHl (s : State) : Result := retire 2 12 (bitHl 5#3) s

/-- BIT 5,A (R291). -/
def execBit5A (s : State) : Result := retire 2 8 (bitR 5#3 .a) s

/-- BIT 6,B (R291). -/
def execBit6B (s : State) : Result := retire 2 8 (bitR 6#3 .b) s

/-- BIT 6,C (R291). -/
def execBit6C (s : State) : Result := retire 2 8 (bitR 6#3 .c) s

/-- BIT 6,D (R291). -/
def execBit6D (s : State) : Result := retire 2 8 (bitR 6#3 .d) s

/-- BIT 6,E (R291). -/
def execBit6E (s : State) : Result := retire 2 8 (bitR 6#3 .e) s

/-- BIT 6,H (R291). -/
def execBit6H (s : State) : Result := retire 2 8 (bitR 6#3 .h) s

/-- BIT 6,L (R291). -/
def execBit6L (s : State) : Result := retire 2 8 (bitR 6#3 .l) s

/-- BIT 6,(HL) (R292). -/
def execBit6IndHl (s : State) : Result := retire 2 12 (bitHl 6#3) s

/-- BIT 6,A (R291). -/
def execBit6A (s : State) : Result := retire 2 8 (bitR 6#3 .a) s

/-- BIT 7,B (R291). -/
def execBit7B (s : State) : Result := retire 2 8 (bitR 7#3 .b) s

/-- BIT 7,C (R291). -/
def execBit7C (s : State) : Result := retire 2 8 (bitR 7#3 .c) s

/-- BIT 7,D (R291). -/
def execBit7D (s : State) : Result := retire 2 8 (bitR 7#3 .d) s

/-- BIT 7,E (R291). -/
def execBit7E (s : State) : Result := retire 2 8 (bitR 7#3 .e) s

/-- BIT 7,H (R291). -/
def execBit7H (s : State) : Result := retire 2 8 (bitR 7#3 .h) s

/-- BIT 7,L (R291). -/
def execBit7L (s : State) : Result := retire 2 8 (bitR 7#3 .l) s

/-- BIT 7,(HL) (R292). -/
def execBit7IndHl (s : State) : Result := retire 2 12 (bitHl 7#3) s

/-- BIT 7,A (R291). -/
def execBit7A (s : State) : Result := retire 2 8 (bitR 7#3 .a) s

/-- RES 0,B (R293). -/
def execRes0B (s : State) : Result := retire 2 8 (resR 0#3 .b) s

/-- RES 0,C (R293). -/
def execRes0C (s : State) : Result := retire 2 8 (resR 0#3 .c) s

/-- RES 0,D (R293). -/
def execRes0D (s : State) : Result := retire 2 8 (resR 0#3 .d) s

/-- RES 0,E (R293). -/
def execRes0E (s : State) : Result := retire 2 8 (resR 0#3 .e) s

/-- RES 0,H (R293). -/
def execRes0H (s : State) : Result := retire 2 8 (resR 0#3 .h) s

/-- RES 0,L (R293). -/
def execRes0L (s : State) : Result := retire 2 8 (resR 0#3 .l) s

/-- RES 0,(HL) (R294). -/
def execRes0IndHl (s : State) : Result := retire 2 16 (resHl 0#3) s

/-- RES 0,A (R293). -/
def execRes0A (s : State) : Result := retire 2 8 (resR 0#3 .a) s

/-- RES 1,B (R293). -/
def execRes1B (s : State) : Result := retire 2 8 (resR 1#3 .b) s

/-- RES 1,C (R293). -/
def execRes1C (s : State) : Result := retire 2 8 (resR 1#3 .c) s

/-- RES 1,D (R293). -/
def execRes1D (s : State) : Result := retire 2 8 (resR 1#3 .d) s

/-- RES 1,E (R293). -/
def execRes1E (s : State) : Result := retire 2 8 (resR 1#3 .e) s

/-- RES 1,H (R293). -/
def execRes1H (s : State) : Result := retire 2 8 (resR 1#3 .h) s

/-- RES 1,L (R293). -/
def execRes1L (s : State) : Result := retire 2 8 (resR 1#3 .l) s

/-- RES 1,(HL) (R294). -/
def execRes1IndHl (s : State) : Result := retire 2 16 (resHl 1#3) s

/-- RES 1,A (R293). -/
def execRes1A (s : State) : Result := retire 2 8 (resR 1#3 .a) s

/-- RES 2,B (R293). -/
def execRes2B (s : State) : Result := retire 2 8 (resR 2#3 .b) s

/-- RES 2,C (R293). -/
def execRes2C (s : State) : Result := retire 2 8 (resR 2#3 .c) s

/-- RES 2,D (R293). -/
def execRes2D (s : State) : Result := retire 2 8 (resR 2#3 .d) s

/-- RES 2,E (R293). -/
def execRes2E (s : State) : Result := retire 2 8 (resR 2#3 .e) s

/-- RES 2,H (R293). -/
def execRes2H (s : State) : Result := retire 2 8 (resR 2#3 .h) s

/-- RES 2,L (R293). -/
def execRes2L (s : State) : Result := retire 2 8 (resR 2#3 .l) s

/-- RES 2,(HL) (R294). -/
def execRes2IndHl (s : State) : Result := retire 2 16 (resHl 2#3) s

/-- RES 2,A (R293). -/
def execRes2A (s : State) : Result := retire 2 8 (resR 2#3 .a) s

/-- RES 3,B (R293). -/
def execRes3B (s : State) : Result := retire 2 8 (resR 3#3 .b) s

/-- RES 3,C (R293). -/
def execRes3C (s : State) : Result := retire 2 8 (resR 3#3 .c) s

/-- RES 3,D (R293). -/
def execRes3D (s : State) : Result := retire 2 8 (resR 3#3 .d) s

/-- RES 3,E (R293). -/
def execRes3E (s : State) : Result := retire 2 8 (resR 3#3 .e) s

/-- RES 3,H (R293). -/
def execRes3H (s : State) : Result := retire 2 8 (resR 3#3 .h) s

/-- RES 3,L (R293). -/
def execRes3L (s : State) : Result := retire 2 8 (resR 3#3 .l) s

/-- RES 3,(HL) (R294). -/
def execRes3IndHl (s : State) : Result := retire 2 16 (resHl 3#3) s

/-- RES 3,A (R293). -/
def execRes3A (s : State) : Result := retire 2 8 (resR 3#3 .a) s

/-- RES 4,B (R293). -/
def execRes4B (s : State) : Result := retire 2 8 (resR 4#3 .b) s

/-- RES 4,C (R293). -/
def execRes4C (s : State) : Result := retire 2 8 (resR 4#3 .c) s

/-- RES 4,D (R293). -/
def execRes4D (s : State) : Result := retire 2 8 (resR 4#3 .d) s

/-- RES 4,E (R293). -/
def execRes4E (s : State) : Result := retire 2 8 (resR 4#3 .e) s

/-- RES 4,H (R293). -/
def execRes4H (s : State) : Result := retire 2 8 (resR 4#3 .h) s

/-- RES 4,L (R293). -/
def execRes4L (s : State) : Result := retire 2 8 (resR 4#3 .l) s

/-- RES 4,(HL) (R294). -/
def execRes4IndHl (s : State) : Result := retire 2 16 (resHl 4#3) s

/-- RES 4,A (R293). -/
def execRes4A (s : State) : Result := retire 2 8 (resR 4#3 .a) s

/-- RES 5,B (R293). -/
def execRes5B (s : State) : Result := retire 2 8 (resR 5#3 .b) s

/-- RES 5,C (R293). -/
def execRes5C (s : State) : Result := retire 2 8 (resR 5#3 .c) s

/-- RES 5,D (R293). -/
def execRes5D (s : State) : Result := retire 2 8 (resR 5#3 .d) s

/-- RES 5,E (R293). -/
def execRes5E (s : State) : Result := retire 2 8 (resR 5#3 .e) s

/-- RES 5,H (R293). -/
def execRes5H (s : State) : Result := retire 2 8 (resR 5#3 .h) s

/-- RES 5,L (R293). -/
def execRes5L (s : State) : Result := retire 2 8 (resR 5#3 .l) s

/-- RES 5,(HL) (R294). -/
def execRes5IndHl (s : State) : Result := retire 2 16 (resHl 5#3) s

/-- RES 5,A (R293). -/
def execRes5A (s : State) : Result := retire 2 8 (resR 5#3 .a) s

/-- RES 6,B (R293). -/
def execRes6B (s : State) : Result := retire 2 8 (resR 6#3 .b) s

/-- RES 6,C (R293). -/
def execRes6C (s : State) : Result := retire 2 8 (resR 6#3 .c) s

/-- RES 6,D (R293). -/
def execRes6D (s : State) : Result := retire 2 8 (resR 6#3 .d) s

/-- RES 6,E (R293). -/
def execRes6E (s : State) : Result := retire 2 8 (resR 6#3 .e) s

/-- RES 6,H (R293). -/
def execRes6H (s : State) : Result := retire 2 8 (resR 6#3 .h) s

/-- RES 6,L (R293). -/
def execRes6L (s : State) : Result := retire 2 8 (resR 6#3 .l) s

/-- RES 6,(HL) (R294). -/
def execRes6IndHl (s : State) : Result := retire 2 16 (resHl 6#3) s

/-- RES 6,A (R293). -/
def execRes6A (s : State) : Result := retire 2 8 (resR 6#3 .a) s

/-- RES 7,B (R293). -/
def execRes7B (s : State) : Result := retire 2 8 (resR 7#3 .b) s

/-- RES 7,C (R293). -/
def execRes7C (s : State) : Result := retire 2 8 (resR 7#3 .c) s

/-- RES 7,D (R293). -/
def execRes7D (s : State) : Result := retire 2 8 (resR 7#3 .d) s

/-- RES 7,E (R293). -/
def execRes7E (s : State) : Result := retire 2 8 (resR 7#3 .e) s

/-- RES 7,H (R293). -/
def execRes7H (s : State) : Result := retire 2 8 (resR 7#3 .h) s

/-- RES 7,L (R293). -/
def execRes7L (s : State) : Result := retire 2 8 (resR 7#3 .l) s

/-- RES 7,(HL) (R294). -/
def execRes7IndHl (s : State) : Result := retire 2 16 (resHl 7#3) s

/-- RES 7,A (R293). -/
def execRes7A (s : State) : Result := retire 2 8 (resR 7#3 .a) s

/-- SET 0,B (R295). -/
def execSet0B (s : State) : Result := retire 2 8 (setR 0#3 .b) s

/-- SET 0,C (R295). -/
def execSet0C (s : State) : Result := retire 2 8 (setR 0#3 .c) s

/-- SET 0,D (R295). -/
def execSet0D (s : State) : Result := retire 2 8 (setR 0#3 .d) s

/-- SET 0,E (R295). -/
def execSet0E (s : State) : Result := retire 2 8 (setR 0#3 .e) s

/-- SET 0,H (R295). -/
def execSet0H (s : State) : Result := retire 2 8 (setR 0#3 .h) s

/-- SET 0,L (R295). -/
def execSet0L (s : State) : Result := retire 2 8 (setR 0#3 .l) s

/-- SET 0,(HL) (R296). -/
def execSet0IndHl (s : State) : Result := retire 2 16 (setHlBit 0#3) s

/-- SET 0,A (R295). -/
def execSet0A (s : State) : Result := retire 2 8 (setR 0#3 .a) s

/-- SET 1,B (R295). -/
def execSet1B (s : State) : Result := retire 2 8 (setR 1#3 .b) s

/-- SET 1,C (R295). -/
def execSet1C (s : State) : Result := retire 2 8 (setR 1#3 .c) s

/-- SET 1,D (R295). -/
def execSet1D (s : State) : Result := retire 2 8 (setR 1#3 .d) s

/-- SET 1,E (R295). -/
def execSet1E (s : State) : Result := retire 2 8 (setR 1#3 .e) s

/-- SET 1,H (R295). -/
def execSet1H (s : State) : Result := retire 2 8 (setR 1#3 .h) s

/-- SET 1,L (R295). -/
def execSet1L (s : State) : Result := retire 2 8 (setR 1#3 .l) s

/-- SET 1,(HL) (R296). -/
def execSet1IndHl (s : State) : Result := retire 2 16 (setHlBit 1#3) s

/-- SET 1,A (R295). -/
def execSet1A (s : State) : Result := retire 2 8 (setR 1#3 .a) s

/-- SET 2,B (R295). -/
def execSet2B (s : State) : Result := retire 2 8 (setR 2#3 .b) s

/-- SET 2,C (R295). -/
def execSet2C (s : State) : Result := retire 2 8 (setR 2#3 .c) s

/-- SET 2,D (R295). -/
def execSet2D (s : State) : Result := retire 2 8 (setR 2#3 .d) s

/-- SET 2,E (R295). -/
def execSet2E (s : State) : Result := retire 2 8 (setR 2#3 .e) s

/-- SET 2,H (R295). -/
def execSet2H (s : State) : Result := retire 2 8 (setR 2#3 .h) s

/-- SET 2,L (R295). -/
def execSet2L (s : State) : Result := retire 2 8 (setR 2#3 .l) s

/-- SET 2,(HL) (R296). -/
def execSet2IndHl (s : State) : Result := retire 2 16 (setHlBit 2#3) s

/-- SET 2,A (R295). -/
def execSet2A (s : State) : Result := retire 2 8 (setR 2#3 .a) s

/-- SET 3,B (R295). -/
def execSet3B (s : State) : Result := retire 2 8 (setR 3#3 .b) s

/-- SET 3,C (R295). -/
def execSet3C (s : State) : Result := retire 2 8 (setR 3#3 .c) s

/-- SET 3,D (R295). -/
def execSet3D (s : State) : Result := retire 2 8 (setR 3#3 .d) s

/-- SET 3,E (R295). -/
def execSet3E (s : State) : Result := retire 2 8 (setR 3#3 .e) s

/-- SET 3,H (R295). -/
def execSet3H (s : State) : Result := retire 2 8 (setR 3#3 .h) s

/-- SET 3,L (R295). -/
def execSet3L (s : State) : Result := retire 2 8 (setR 3#3 .l) s

/-- SET 3,(HL) (R296). -/
def execSet3IndHl (s : State) : Result := retire 2 16 (setHlBit 3#3) s

/-- SET 3,A (R295). -/
def execSet3A (s : State) : Result := retire 2 8 (setR 3#3 .a) s

/-- SET 4,B (R295). -/
def execSet4B (s : State) : Result := retire 2 8 (setR 4#3 .b) s

/-- SET 4,C (R295). -/
def execSet4C (s : State) : Result := retire 2 8 (setR 4#3 .c) s

/-- SET 4,D (R295). -/
def execSet4D (s : State) : Result := retire 2 8 (setR 4#3 .d) s

/-- SET 4,E (R295). -/
def execSet4E (s : State) : Result := retire 2 8 (setR 4#3 .e) s

/-- SET 4,H (R295). -/
def execSet4H (s : State) : Result := retire 2 8 (setR 4#3 .h) s

/-- SET 4,L (R295). -/
def execSet4L (s : State) : Result := retire 2 8 (setR 4#3 .l) s

/-- SET 4,(HL) (R296). -/
def execSet4IndHl (s : State) : Result := retire 2 16 (setHlBit 4#3) s

/-- SET 4,A (R295). -/
def execSet4A (s : State) : Result := retire 2 8 (setR 4#3 .a) s

/-- SET 5,B (R295). -/
def execSet5B (s : State) : Result := retire 2 8 (setR 5#3 .b) s

/-- SET 5,C (R295). -/
def execSet5C (s : State) : Result := retire 2 8 (setR 5#3 .c) s

/-- SET 5,D (R295). -/
def execSet5D (s : State) : Result := retire 2 8 (setR 5#3 .d) s

/-- SET 5,E (R295). -/
def execSet5E (s : State) : Result := retire 2 8 (setR 5#3 .e) s

/-- SET 5,H (R295). -/
def execSet5H (s : State) : Result := retire 2 8 (setR 5#3 .h) s

/-- SET 5,L (R295). -/
def execSet5L (s : State) : Result := retire 2 8 (setR 5#3 .l) s

/-- SET 5,(HL) (R296). -/
def execSet5IndHl (s : State) : Result := retire 2 16 (setHlBit 5#3) s

/-- SET 5,A (R295). -/
def execSet5A (s : State) : Result := retire 2 8 (setR 5#3 .a) s

/-- SET 6,B (R295). -/
def execSet6B (s : State) : Result := retire 2 8 (setR 6#3 .b) s

/-- SET 6,C (R295). -/
def execSet6C (s : State) : Result := retire 2 8 (setR 6#3 .c) s

/-- SET 6,D (R295). -/
def execSet6D (s : State) : Result := retire 2 8 (setR 6#3 .d) s

/-- SET 6,E (R295). -/
def execSet6E (s : State) : Result := retire 2 8 (setR 6#3 .e) s

/-- SET 6,H (R295). -/
def execSet6H (s : State) : Result := retire 2 8 (setR 6#3 .h) s

/-- SET 6,L (R295). -/
def execSet6L (s : State) : Result := retire 2 8 (setR 6#3 .l) s

/-- SET 6,(HL) (R296). -/
def execSet6IndHl (s : State) : Result := retire 2 16 (setHlBit 6#3) s

/-- SET 6,A (R295). -/
def execSet6A (s : State) : Result := retire 2 8 (setR 6#3 .a) s

/-- SET 7,B (R295). -/
def execSet7B (s : State) : Result := retire 2 8 (setR 7#3 .b) s

/-- SET 7,C (R295). -/
def execSet7C (s : State) : Result := retire 2 8 (setR 7#3 .c) s

/-- SET 7,D (R295). -/
def execSet7D (s : State) : Result := retire 2 8 (setR 7#3 .d) s

/-- SET 7,E (R295). -/
def execSet7E (s : State) : Result := retire 2 8 (setR 7#3 .e) s

/-- SET 7,H (R295). -/
def execSet7H (s : State) : Result := retire 2 8 (setR 7#3 .h) s

/-- SET 7,L (R295). -/
def execSet7L (s : State) : Result := retire 2 8 (setR 7#3 .l) s

/-- SET 7,(HL) (R296). -/
def execSet7IndHl (s : State) : Result := retire 2 16 (setHlBit 7#3) s

/-- SET 7,A (R295). -/
def execSet7A (s : State) : Result := retire 2 8 (setR 7#3 .a) s

end Sys2Proof.Machine
end

