-- ==== Sys2Proof/Machine/Rotate.lean ====
section
/-! DEFINITION. The meanings of the rotates and shifts (44_rotate_shift_bit.md R270 to R290). -/

namespace Sys2Proof.Machine

/-- A one-byte accumulator rotate (44_rotate_shift_bit.md R270 to R273). -/
def rotA (op : RotOp) (u : State) : State := setAF8 (rotAFlags (rotate op u.regs.a u.f.cf)) u

/-- A rotate or shift of a register (44_rotate_shift_bit.md R275 to R289, odd rules). -/
def rotR (op : RotOp) (t : Reg8) (u : State) : State := setR8F t (rotFlags (rotate op (r8 u t) u.f.cf)) u

/-- A rotate or shift of the byte at HL: one bus read, one bus write (44_rotate_shift_bit.md R276 to R290, even rules). -/
def rotHl (op : RotOp) (u : State) : State :=
  setMemF (hl u) (rotFlags (rotate op (readByte u (hl u)) u.f.cf)) u

/-- RLCA (R270). -/
def execRlca (s : State) : Result := retire 1 4 (rotA .rlc) s

/-- RRCA (R271). -/
def execRrca (s : State) : Result := retire 1 4 (rotA .rrc) s

/-- RLA (R272). -/
def execRla (s : State) : Result := retire 1 4 (rotA .rl) s

/-- RRA (R273). -/
def execRra (s : State) : Result := retire 1 4 (rotA .rr) s

/-- RLC B (R275). -/
def execRlcB (s : State) : Result := retire 2 8 (rotR .rlc .b) s

/-- RLC C (R275). -/
def execRlcC (s : State) : Result := retire 2 8 (rotR .rlc .c) s

/-- RLC D (R275). -/
def execRlcD (s : State) : Result := retire 2 8 (rotR .rlc .d) s

/-- RLC E (R275). -/
def execRlcE (s : State) : Result := retire 2 8 (rotR .rlc .e) s

/-- RLC H (R275). -/
def execRlcH (s : State) : Result := retire 2 8 (rotR .rlc .h) s

/-- RLC L (R275). -/
def execRlcL (s : State) : Result := retire 2 8 (rotR .rlc .l) s

/-- RLC (HL) (R276). -/
def execRlcIndHl (s : State) : Result := retire 2 16 (rotHl .rlc) s

/-- RLC A (R275). -/
def execRlcA (s : State) : Result := retire 2 8 (rotR .rlc .a) s

/-- RRC B (R277). -/
def execRrcB (s : State) : Result := retire 2 8 (rotR .rrc .b) s

/-- RRC C (R277). -/
def execRrcC (s : State) : Result := retire 2 8 (rotR .rrc .c) s

/-- RRC D (R277). -/
def execRrcD (s : State) : Result := retire 2 8 (rotR .rrc .d) s

/-- RRC E (R277). -/
def execRrcE (s : State) : Result := retire 2 8 (rotR .rrc .e) s

/-- RRC H (R277). -/
def execRrcH (s : State) : Result := retire 2 8 (rotR .rrc .h) s

/-- RRC L (R277). -/
def execRrcL (s : State) : Result := retire 2 8 (rotR .rrc .l) s

/-- RRC (HL) (R278). -/
def execRrcIndHl (s : State) : Result := retire 2 16 (rotHl .rrc) s

/-- RRC A (R277). -/
def execRrcA (s : State) : Result := retire 2 8 (rotR .rrc .a) s

/-- RL B (R279). -/
def execRlB (s : State) : Result := retire 2 8 (rotR .rl .b) s

/-- RL C (R279). -/
def execRlC (s : State) : Result := retire 2 8 (rotR .rl .c) s

/-- RL D (R279). -/
def execRlD (s : State) : Result := retire 2 8 (rotR .rl .d) s

/-- RL E (R279). -/
def execRlE (s : State) : Result := retire 2 8 (rotR .rl .e) s

/-- RL H (R279). -/
def execRlH (s : State) : Result := retire 2 8 (rotR .rl .h) s

/-- RL L (R279). -/
def execRlL (s : State) : Result := retire 2 8 (rotR .rl .l) s

/-- RL (HL) (R280). -/
def execRlIndHl (s : State) : Result := retire 2 16 (rotHl .rl) s

/-- RL A (R279). -/
def execRlA (s : State) : Result := retire 2 8 (rotR .rl .a) s

/-- RR B (R281). -/
def execRrB (s : State) : Result := retire 2 8 (rotR .rr .b) s

/-- RR C (R281). -/
def execRrC (s : State) : Result := retire 2 8 (rotR .rr .c) s

/-- RR D (R281). -/
def execRrD (s : State) : Result := retire 2 8 (rotR .rr .d) s

/-- RR E (R281). -/
def execRrE (s : State) : Result := retire 2 8 (rotR .rr .e) s

/-- RR H (R281). -/
def execRrH (s : State) : Result := retire 2 8 (rotR .rr .h) s

/-- RR L (R281). -/
def execRrL (s : State) : Result := retire 2 8 (rotR .rr .l) s

/-- RR (HL) (R282). -/
def execRrIndHl (s : State) : Result := retire 2 16 (rotHl .rr) s

/-- RR A (R281). -/
def execRrA (s : State) : Result := retire 2 8 (rotR .rr .a) s

/-- SLA B (R283). -/
def execSlaB (s : State) : Result := retire 2 8 (rotR .sla .b) s

/-- SLA C (R283). -/
def execSlaC (s : State) : Result := retire 2 8 (rotR .sla .c) s

/-- SLA D (R283). -/
def execSlaD (s : State) : Result := retire 2 8 (rotR .sla .d) s

/-- SLA E (R283). -/
def execSlaE (s : State) : Result := retire 2 8 (rotR .sla .e) s

/-- SLA H (R283). -/
def execSlaH (s : State) : Result := retire 2 8 (rotR .sla .h) s

/-- SLA L (R283). -/
def execSlaL (s : State) : Result := retire 2 8 (rotR .sla .l) s

/-- SLA (HL) (R284). -/
def execSlaIndHl (s : State) : Result := retire 2 16 (rotHl .sla) s

/-- SLA A (R283). -/
def execSlaA (s : State) : Result := retire 2 8 (rotR .sla .a) s

/-- SRA B (R285). -/
def execSraB (s : State) : Result := retire 2 8 (rotR .sra .b) s

/-- SRA C (R285). -/
def execSraC (s : State) : Result := retire 2 8 (rotR .sra .c) s

/-- SRA D (R285). -/
def execSraD (s : State) : Result := retire 2 8 (rotR .sra .d) s

/-- SRA E (R285). -/
def execSraE (s : State) : Result := retire 2 8 (rotR .sra .e) s

/-- SRA H (R285). -/
def execSraH (s : State) : Result := retire 2 8 (rotR .sra .h) s

/-- SRA L (R285). -/
def execSraL (s : State) : Result := retire 2 8 (rotR .sra .l) s

/-- SRA (HL) (R286). -/
def execSraIndHl (s : State) : Result := retire 2 16 (rotHl .sra) s

/-- SRA A (R285). -/
def execSraA (s : State) : Result := retire 2 8 (rotR .sra .a) s

/-- SWAP B (R287). -/
def execSwapB (s : State) : Result := retire 2 8 (rotR .swap .b) s

/-- SWAP C (R287). -/
def execSwapC (s : State) : Result := retire 2 8 (rotR .swap .c) s

/-- SWAP D (R287). -/
def execSwapD (s : State) : Result := retire 2 8 (rotR .swap .d) s

/-- SWAP E (R287). -/
def execSwapE (s : State) : Result := retire 2 8 (rotR .swap .e) s

/-- SWAP H (R287). -/
def execSwapH (s : State) : Result := retire 2 8 (rotR .swap .h) s

/-- SWAP L (R287). -/
def execSwapL (s : State) : Result := retire 2 8 (rotR .swap .l) s

/-- SWAP (HL) (R288). -/
def execSwapIndHl (s : State) : Result := retire 2 16 (rotHl .swap) s

/-- SWAP A (R287). -/
def execSwapA (s : State) : Result := retire 2 8 (rotR .swap .a) s

/-- SRL B (R289). -/
def execSrlB (s : State) : Result := retire 2 8 (rotR .srl .b) s

/-- SRL C (R289). -/
def execSrlC (s : State) : Result := retire 2 8 (rotR .srl .c) s

/-- SRL D (R289). -/
def execSrlD (s : State) : Result := retire 2 8 (rotR .srl .d) s

/-- SRL E (R289). -/
def execSrlE (s : State) : Result := retire 2 8 (rotR .srl .e) s

/-- SRL H (R289). -/
def execSrlH (s : State) : Result := retire 2 8 (rotR .srl .h) s

/-- SRL L (R289). -/
def execSrlL (s : State) : Result := retire 2 8 (rotR .srl .l) s

/-- SRL (HL) (R290). -/
def execSrlIndHl (s : State) : Result := retire 2 16 (rotHl .srl) s

/-- SRL A (R289). -/
def execSrlA (s : State) : Result := retire 2 8 (rotR .srl .a) s

end Sys2Proof.Machine
end

