-- ==== Sys2Proof/Machine/Control.lean ====
section
/-! DEFINITION. The meanings of the CPU control, the prefix byte, and the bytes without an instruction (46_cpu_control.md R320 to R328). -/

namespace Sys2Proof.Machine

/-- HALT's Operation; `promote` is the enable sampled at the start of the step (46_cpu_control.md R321, R323;
log 14, DEDUCED, safe). -/
def halt (promote : Bool) (u : State) : State :=
  if u.cfg.haltBug && !u.ime && !promote && decide (pending u ≠ 0#5) then { u with haltBug := true }
  else { u with halted := true }

/-- `ime_pending <- 1` (46_cpu_control.md R326). -/
def enableLater (u : State) : State := { u with imePending := true }

/-- `IME <- 0; ime_pending <- 0`; the step's promotion is cancelled by its caller (46_cpu_control.md R325). -/
def disable (u : State) : State := { u with ime := false, imePending := false }

/-- The register an `r8` field selects; none for index 6, the byte at HL (30_encoding.md R144). -/
def reg8OfField (x : BitVec 3) : Option Reg8 :=
  match x.toNat with
  | 0 => some .b
  | 1 => some .c
  | 2 => some .d
  | 3 => some .e
  | 4 => some .h
  | 5 => some .l
  | 6 => none
  | _ => some .a

/-- The operation a rotate and shift field selects (30_encoding.md R147). -/
def rotOpOfField (x : BitVec 3) : RotOp :=
  match x.toNat with
  | 0 => .rlc
  | 1 => .rrc
  | 2 => .rl
  | 3 => .rr
  | 4 => .sla
  | 5 => .sra
  | 6 => .swap
  | _ => .srl

/-- The handler of the prefix byte: dispatch on the second byte by its fields `x`, `y`, `t`; the costs include the prefix
(30_encoding.md R150, 44_rotate_shift_bit.md R274, 46_cpu_control.md R327). -/
def runSecondary (op2 : Byte) (s : State) : Result :=
  let y := op2.extractLsb' 3 3
  match (op2.extractLsb' 6 2).toNat, reg8OfField (op2.extractLsb' 0 3) with
  | 0, some t => retire 2 8 (rotR (rotOpOfField y) t) s
  | 0, none => retire 2 16 (rotHl (rotOpOfField y)) s
  | 1, some t => retire 2 8 (bitR y t) s
  | 1, none => retire 2 12 (bitHl y) s
  | 2, some t => retire 2 8 (resR y t) s
  | 2, none => retire 2 16 (resHl y) s
  | _, some t => retire 2 8 (setR y t) s
  | _, none => retire 2 16 (setHlBit y) s

/-- NOP (R320). -/
def execNop (s : State) : Result := retire 1 4 id s

/-- STOP (R324; its length, log 8, DEDUCED, safe). -/
def execStop (s : State) : Result := raiseUnimplemented 0x10#8 s

/-- HALT (R321). -/
def execHalt (s : State) : Result := retire 1 4 (halt s.imePending) s

/-- PREFIX CB (R327). -/
def execPrefixCb (op2 : Byte) (s : State) : Result := runSecondary op2 s

/-- opcode byte 0xD3 (R328). -/
def execIllegalD3 (s : State) : Result := raiseUnimplemented 0xD3#8 s

/-- opcode byte 0xDB (R328). -/
def execIllegalDB (s : State) : Result := raiseUnimplemented 0xDB#8 s

/-- opcode byte 0xDD (R328). -/
def execIllegalDD (s : State) : Result := raiseUnimplemented 0xDD#8 s

/-- opcode byte 0xE3 (R328). -/
def execIllegalE3 (s : State) : Result := raiseUnimplemented 0xE3#8 s

/-- opcode byte 0xE4 (R328). -/
def execIllegalE4 (s : State) : Result := raiseUnimplemented 0xE4#8 s

/-- opcode byte 0xEB (R328). -/
def execIllegalEB (s : State) : Result := raiseUnimplemented 0xEB#8 s

/-- opcode byte 0xEC (R328). -/
def execIllegalEC (s : State) : Result := raiseUnimplemented 0xEC#8 s

/-- opcode byte 0xED (R328). -/
def execIllegalED (s : State) : Result := raiseUnimplemented 0xED#8 s

/-- DI (R325). -/
def execDi (s : State) : Result := .next (finishStep false 4 (disable (beginStep 1 s)))

/-- opcode byte 0xF4 (R328). -/
def execIllegalF4 (s : State) : Result := raiseUnimplemented 0xF4#8 s

/-- EI (R326). -/
def execEi (s : State) : Result := retire 1 4 enableLater s

/-- opcode byte 0xFC (R328). -/
def execIllegalFC (s : State) : Result := raiseUnimplemented 0xFC#8 s

/-- opcode byte 0xFD (R328). -/
def execIllegalFD (s : State) : Result := raiseUnimplemented 0xFD#8 s

end Sys2Proof.Machine
end

