-- ==== Sys2Proof/Machine/Flow.lean ====
section
/-! DEFINITION. The meanings of the jumps, calls, returns and restarts (45_control_flow.md R300 to R311). -/

namespace Sys2Proof.Machine

/-- `PC <- a` (45_control_flow.md R300, R302). -/
def jump (a : Word) (u : State) : State := { u with pc := a }

/-- `if cond(c): PC <- a` (45_control_flow.md R301). -/
def jumpIf (cc : Cond) (a : Word) (u : State) : State := if cond cc u.f then jump a u else u

/-- `PC <- (PC + sext_16(b)) mod 0x10000`, PC being past the instruction (45_control_flow.md R303). -/
def jumpRel (b : Byte) (u : State) : State := jump (u.pc + sext16 b) u

/-- `if cond(c): PC <- (PC + sext_16(b)) mod 0x10000` (45_control_flow.md R304). -/
def jumpRelIf (cc : Cond) (b : Byte) (u : State) : State := if cond cc u.f then jumpRel b u else u

/-- `push16(PC); PC <- a`, PC being past the instruction (45_control_flow.md R305, R310). -/
def call (a : Word) (u : State) : State := jump a (push16 u.pc u)

/-- `if cond(c): push16(PC); PC <- a` (45_control_flow.md R306). -/
def callIf (cc : Cond) (a : Word) (u : State) : State := if cond cc u.f then call a u else u

/-- `if cond(c): PC <- pop16()` (45_control_flow.md R308). -/
def returnIf (cc : Cond) (u : State) : State := if cond cc u.f then returnPc u else u

/-- `PC <- pop16(); ime_pending <- 1` (45_control_flow.md R309). -/
def returnEnable (u : State) : State := { returnPc u with imePending := true }

/-- JR e8 (R303). -/
def execJrE8 (e : Byte) (s : State) : Result := retire 2 12 (jumpRel e) s

/-- JR NZ,e8 (R304). -/
def execJrNzE8 (e : Byte) (s : State) : Result := retire 2 (branchCost .nz s 12 8) (jumpRelIf .nz e) s

/-- JR Z,e8 (R304). -/
def execJrZE8 (e : Byte) (s : State) : Result := retire 2 (branchCost .z s 12 8) (jumpRelIf .z e) s

/-- JR NC,e8 (R304). -/
def execJrNcE8 (e : Byte) (s : State) : Result := retire 2 (branchCost .nc s 12 8) (jumpRelIf .nc e) s

/-- JR C,e8 (R304). -/
def execJrCE8 (e : Byte) (s : State) : Result := retire 2 (branchCost .c s 12 8) (jumpRelIf .c e) s

/-- RET NZ (R308). -/
def execRetNz (s : State) : Result := retire 1 (branchCost .nz s 20 8) (returnIf .nz) s

/-- JP NZ,a16 (R301). -/
def execJpNzA16 (a : Word) (s : State) : Result := retire 3 (branchCost .nz s 16 12) (jumpIf .nz a) s

/-- JP a16 (R300). -/
def execJpA16 (a : Word) (s : State) : Result := retire 3 16 (jump a) s

/-- CALL NZ,a16 (R306). -/
def execCallNzA16 (a : Word) (s : State) : Result := retire 3 (branchCost .nz s 24 12) (callIf .nz a) s

/-- RST 00H (R310). -/
def execRst00 (s : State) : Result := retire 1 16 (call 0x0000#16) s

/-- RET Z (R308). -/
def execRetZ (s : State) : Result := retire 1 (branchCost .z s 20 8) (returnIf .z) s

/-- RET (R307). -/
def execRet (s : State) : Result := retire 1 16 returnPc s

/-- JP Z,a16 (R301). -/
def execJpZA16 (a : Word) (s : State) : Result := retire 3 (branchCost .z s 16 12) (jumpIf .z a) s

/-- CALL Z,a16 (R306). -/
def execCallZA16 (a : Word) (s : State) : Result := retire 3 (branchCost .z s 24 12) (callIf .z a) s

/-- CALL a16 (R305). -/
def execCallA16 (a : Word) (s : State) : Result := retire 3 24 (call a) s

/-- RST 08H (R310). -/
def execRst08 (s : State) : Result := retire 1 16 (call 0x0008#16) s

/-- RET NC (R308). -/
def execRetNc (s : State) : Result := retire 1 (branchCost .nc s 20 8) (returnIf .nc) s

/-- JP NC,a16 (R301). -/
def execJpNcA16 (a : Word) (s : State) : Result := retire 3 (branchCost .nc s 16 12) (jumpIf .nc a) s

/-- CALL NC,a16 (R306). -/
def execCallNcA16 (a : Word) (s : State) : Result := retire 3 (branchCost .nc s 24 12) (callIf .nc a) s

/-- RST 10H (R310). -/
def execRst10 (s : State) : Result := retire 1 16 (call 0x0010#16) s

/-- RET C (R308). -/
def execRetC (s : State) : Result := retire 1 (branchCost .c s 20 8) (returnIf .c) s

/-- RETI (R309). -/
def execReti (s : State) : Result := retire 1 16 returnEnable s

/-- JP C,a16 (R301). -/
def execJpCA16 (a : Word) (s : State) : Result := retire 3 (branchCost .c s 16 12) (jumpIf .c a) s

/-- CALL C,a16 (R306). -/
def execCallCA16 (a : Word) (s : State) : Result := retire 3 (branchCost .c s 24 12) (callIf .c a) s

/-- RST 18H (R310). -/
def execRst18 (s : State) : Result := retire 1 16 (call 0x0018#16) s

/-- RST 20H (R310). -/
def execRst20 (s : State) : Result := retire 1 16 (call 0x0020#16) s

/-- JP HL (R302). -/
def execJpHl (s : State) : Result := retire 1 4 (fun u => jump (hl u) u) s

/-- RST 28H (R310). -/
def execRst28 (s : State) : Result := retire 1 16 (call 0x0028#16) s

/-- RST 30H (R310). -/
def execRst30 (s : State) : Result := retire 1 16 (call 0x0030#16) s

/-- RST 38H (R310). -/
def execRst38 (s : State) : Result := retire 1 16 (call 0x0038#16) s

end Sys2Proof.Machine
end

