-- ==== Sys2Proof/Machine/Load16.lean ====
section
/-! DEFINITION. The meanings of the 16-bit loads and the stack (41_load16_stack.md R200 to R208). -/

namespace Sys2Proof.Machine

/-- `MemWrite(a, 2, SP)` (41_load16_stack.md R201). -/
def storeSp (a : Word) (u : State) : State := writeWord u a u.sp

/-- `SP <- HL` (41_load16_stack.md R202). -/
def spFromHl (u : State) : State := { u with sp := hl u }

/-- `HL <- (SP + sext_16(b)) mod 0x10000` with the low-byte carries (41_load16_stack.md R203). -/
def hlFromSp (b : Byte) (u : State) : State := { setHl (addSigned u.sp b).1 u with f := (addSigned u.sp b).2 }

/-- `push16(r16stk[p])` (41_load16_stack.md R204). -/
def push (p : Reg16Stk) (u : State) : State := push16 (r16stk u p) u

/-- `r16stk[p] <- pop16()` (41_load16_stack.md R207, R208). -/
def pop (p : Reg16Stk) (u : State) : State := setR16stk p (popValue u) (popSp u)

/-- LD BC,d16 (R200). -/
def execLdBcD16 (v : Word) (s : State) : Result := retire 3 12 (setR16 .bc v) s

/-- LD (a16),SP (R201). -/
def execLdIndA16Sp (a : Word) (s : State) : Result := retire 3 20 (storeSp a) s

/-- LD DE,d16 (R200). -/
def execLdDeD16 (v : Word) (s : State) : Result := retire 3 12 (setR16 .de v) s

/-- LD HL,d16 (R200). -/
def execLdHlD16 (v : Word) (s : State) : Result := retire 3 12 (setR16 .hl v) s

/-- LD SP,d16 (R200). -/
def execLdSpD16 (v : Word) (s : State) : Result := retire 3 12 (setR16 .sp v) s

/-- POP BC (R207). -/
def execPopBc (s : State) : Result := retire 1 12 (pop .bc) s

/-- PUSH BC (R204). -/
def execPushBc (s : State) : Result := retire 1 16 (push .bc) s

/-- POP DE (R207). -/
def execPopDe (s : State) : Result := retire 1 12 (pop .de) s

/-- PUSH DE (R204). -/
def execPushDe (s : State) : Result := retire 1 16 (push .de) s

/-- POP HL (R207). -/
def execPopHl (s : State) : Result := retire 1 12 (pop .hl) s

/-- PUSH HL (R204). -/
def execPushHl (s : State) : Result := retire 1 16 (push .hl) s

/-- POP AF (R208). -/
def execPopAf (s : State) : Result := retire 1 12 (pop .af) s

/-- PUSH AF (R204). -/
def execPushAf (s : State) : Result := retire 1 16 (push .af) s

/-- LD HL,SP+e8 (R203). -/
def execLdHlSpE8 (e : Byte) (s : State) : Result := retire 2 12 (hlFromSp e) s

/-- LD SP,HL (R202). -/
def execLdSpHl (s : State) : Result := retire 1 8 spFromHl s

end Sys2Proof.Machine
end

