-- ==== Sys2Proof/Machine/Load8.lean ====
section
/-! DEFINITION. The meanings of the 8-bit loads (40_load8.md R170 to R189). -/

namespace Sys2Proof.Machine

/-- `r8[d] <- r8[r]` (40_load8.md R170). -/
def ldRR (rd r : Reg8) (u : State) : State := setR8 rd (r8 u r) u

/-- `r8[d] <- MemRead(HL, 1)` (40_load8.md R172). -/
def ldRHl (rd : Reg8) (u : State) : State := setR8 rd (readByte u (hl u)) u

/-- `MemWrite(HL, 1, r8[r])` (40_load8.md R173). -/
def ldHlR (r : Reg8) (u : State) : State := writeByte u (hl u) (r8 u r)

/-- `MemWrite(HL, 1, v)` (40_load8.md R174). -/
def storeHl (v : Byte) (u : State) : State := writeByte u (hl u) v

/-- `A <- MemRead(a, 1)` (40_load8.md R175, R176, R179, R181, R183). -/
def loadA (a : Word) (u : State) : State := setR8 .a (readByte u a) u

/-- `MemWrite(a, 1, A)` (40_load8.md R177, R178, R180, R182, R184). -/
def storeA (a : Word) (u : State) : State := writeByte u a u.regs.a

/-- `A <- MemRead(HL, 1); HL <- (HL + k) mod 0x10000` (40_load8.md R185, R187). -/
def loadAStep (k : Word) (u : State) : State := setHl (hl u + k) (loadA (hl u) u)

/-- `MemWrite(HL, 1, A); HL <- (HL + k) mod 0x10000` (40_load8.md R186, R188). -/
def storeAStep (k : Word) (u : State) : State := setHl (hl u + k) (storeA (hl u) u)

/-- LD (BC),A (R177). -/
def execLdIndBcA (s : State) : Result := retire 1 8 (fun u => storeA (bc u) u) s

/-- LD B,d8 (R171). -/
def execLdBD8 (v : Byte) (s : State) : Result := retire 2 8 (setR8 .b v) s

/-- LD A,(BC) (R175). -/
def execLdAIndBc (s : State) : Result := retire 1 8 (fun u => loadA (bc u) u) s

/-- LD C,d8 (R171). -/
def execLdCD8 (v : Byte) (s : State) : Result := retire 2 8 (setR8 .c v) s

/-- LD (DE),A (R178). -/
def execLdIndDeA (s : State) : Result := retire 1 8 (fun u => storeA (de u) u) s

/-- LD D,d8 (R171). -/
def execLdDD8 (v : Byte) (s : State) : Result := retire 2 8 (setR8 .d v) s

/-- LD A,(DE) (R176). -/
def execLdAIndDe (s : State) : Result := retire 1 8 (fun u => loadA (de u) u) s

/-- LD E,d8 (R171). -/
def execLdED8 (v : Byte) (s : State) : Result := retire 2 8 (setR8 .e v) s

/-- LD (HL+),A (R188). -/
def execLdIndHlIncA (s : State) : Result := retire 1 8 (storeAStep 1#16) s

/-- LD H,d8 (R171). -/
def execLdHD8 (v : Byte) (s : State) : Result := retire 2 8 (setR8 .h v) s

/-- LD A,(HL+) (R187). -/
def execLdAIndHlInc (s : State) : Result := retire 1 8 (loadAStep 1#16) s

/-- LD L,d8 (R171). -/
def execLdLD8 (v : Byte) (s : State) : Result := retire 2 8 (setR8 .l v) s

/-- LD (HL-),A (R186). -/
def execLdIndHlDecA (s : State) : Result := retire 1 8 (storeAStep (-1#16)) s

/-- LD (HL),d8 (R174). -/
def execLdIndHlD8 (v : Byte) (s : State) : Result := retire 2 12 (storeHl v) s

/-- LD A,(HL-) (R185). -/
def execLdAIndHlDec (s : State) : Result := retire 1 8 (loadAStep (-1#16)) s

/-- LD A,d8 (R171). -/
def execLdAD8 (v : Byte) (s : State) : Result := retire 2 8 (setR8 .a v) s

/-- LD B,B (R170). -/
def execLdBB (s : State) : Result := retire 1 4 (ldRR .b .b) s

/-- LD B,C (R170). -/
def execLdBC (s : State) : Result := retire 1 4 (ldRR .b .c) s

/-- LD B,D (R170). -/
def execLdBD (s : State) : Result := retire 1 4 (ldRR .b .d) s

/-- LD B,E (R170). -/
def execLdBE (s : State) : Result := retire 1 4 (ldRR .b .e) s

/-- LD B,H (R170). -/
def execLdBH (s : State) : Result := retire 1 4 (ldRR .b .h) s

/-- LD B,L (R170). -/
def execLdBL (s : State) : Result := retire 1 4 (ldRR .b .l) s

/-- LD B,(HL) (R172). -/
def execLdBIndHl (s : State) : Result := retire 1 8 (ldRHl .b) s

/-- LD B,A (R170). -/
def execLdBA (s : State) : Result := retire 1 4 (ldRR .b .a) s

/-- LD C,B (R170). -/
def execLdCB (s : State) : Result := retire 1 4 (ldRR .c .b) s

/-- LD C,C (R170). -/
def execLdCC (s : State) : Result := retire 1 4 (ldRR .c .c) s

/-- LD C,D (R170). -/
def execLdCD (s : State) : Result := retire 1 4 (ldRR .c .d) s

/-- LD C,E (R170). -/
def execLdCE (s : State) : Result := retire 1 4 (ldRR .c .e) s

/-- LD C,H (R170). -/
def execLdCH (s : State) : Result := retire 1 4 (ldRR .c .h) s

/-- LD C,L (R170). -/
def execLdCL (s : State) : Result := retire 1 4 (ldRR .c .l) s

/-- LD C,(HL) (R172). -/
def execLdCIndHl (s : State) : Result := retire 1 8 (ldRHl .c) s

/-- LD C,A (R170). -/
def execLdCA (s : State) : Result := retire 1 4 (ldRR .c .a) s

/-- LD D,B (R170). -/
def execLdDB (s : State) : Result := retire 1 4 (ldRR .d .b) s

/-- LD D,C (R170). -/
def execLdDC (s : State) : Result := retire 1 4 (ldRR .d .c) s

/-- LD D,D (R170). -/
def execLdDD (s : State) : Result := retire 1 4 (ldRR .d .d) s

/-- LD D,E (R170). -/
def execLdDE (s : State) : Result := retire 1 4 (ldRR .d .e) s

/-- LD D,H (R170). -/
def execLdDH (s : State) : Result := retire 1 4 (ldRR .d .h) s

/-- LD D,L (R170). -/
def execLdDL (s : State) : Result := retire 1 4 (ldRR .d .l) s

/-- LD D,(HL) (R172). -/
def execLdDIndHl (s : State) : Result := retire 1 8 (ldRHl .d) s

/-- LD D,A (R170). -/
def execLdDA (s : State) : Result := retire 1 4 (ldRR .d .a) s

/-- LD E,B (R170). -/
def execLdEB (s : State) : Result := retire 1 4 (ldRR .e .b) s

/-- LD E,C (R170). -/
def execLdEC (s : State) : Result := retire 1 4 (ldRR .e .c) s

/-- LD E,D (R170). -/
def execLdED (s : State) : Result := retire 1 4 (ldRR .e .d) s

/-- LD E,E (R170). -/
def execLdEE (s : State) : Result := retire 1 4 (ldRR .e .e) s

/-- LD E,H (R170). -/
def execLdEH (s : State) : Result := retire 1 4 (ldRR .e .h) s

/-- LD E,L (R170). -/
def execLdEL (s : State) : Result := retire 1 4 (ldRR .e .l) s

/-- LD E,(HL) (R172). -/
def execLdEIndHl (s : State) : Result := retire 1 8 (ldRHl .e) s

/-- LD E,A (R170). -/
def execLdEA (s : State) : Result := retire 1 4 (ldRR .e .a) s

/-- LD H,B (R170). -/
def execLdHB (s : State) : Result := retire 1 4 (ldRR .h .b) s

/-- LD H,C (R170). -/
def execLdHC (s : State) : Result := retire 1 4 (ldRR .h .c) s

/-- LD H,D (R170). -/
def execLdHD (s : State) : Result := retire 1 4 (ldRR .h .d) s

/-- LD H,E (R170). -/
def execLdHE (s : State) : Result := retire 1 4 (ldRR .h .e) s

/-- LD H,H (R170). -/
def execLdHH (s : State) : Result := retire 1 4 (ldRR .h .h) s

/-- LD H,L (R170). -/
def execLdHL (s : State) : Result := retire 1 4 (ldRR .h .l) s

/-- LD H,(HL) (R172). -/
def execLdHIndHl (s : State) : Result := retire 1 8 (ldRHl .h) s

/-- LD H,A (R170). -/
def execLdHA (s : State) : Result := retire 1 4 (ldRR .h .a) s

/-- LD L,B (R170). -/
def execLdLB (s : State) : Result := retire 1 4 (ldRR .l .b) s

/-- LD L,C (R170). -/
def execLdLC (s : State) : Result := retire 1 4 (ldRR .l .c) s

/-- LD L,D (R170). -/
def execLdLD (s : State) : Result := retire 1 4 (ldRR .l .d) s

/-- LD L,E (R170). -/
def execLdLE (s : State) : Result := retire 1 4 (ldRR .l .e) s

/-- LD L,H (R170). -/
def execLdLH (s : State) : Result := retire 1 4 (ldRR .l .h) s

/-- LD L,L (R170). -/
def execLdLL (s : State) : Result := retire 1 4 (ldRR .l .l) s

/-- LD L,(HL) (R172). -/
def execLdLIndHl (s : State) : Result := retire 1 8 (ldRHl .l) s

/-- LD L,A (R170). -/
def execLdLA (s : State) : Result := retire 1 4 (ldRR .l .a) s

/-- LD (HL),B (R173). -/
def execLdIndHlB (s : State) : Result := retire 1 8 (ldHlR .b) s

/-- LD (HL),C (R173). -/
def execLdIndHlC (s : State) : Result := retire 1 8 (ldHlR .c) s

/-- LD (HL),D (R173). -/
def execLdIndHlD (s : State) : Result := retire 1 8 (ldHlR .d) s

/-- LD (HL),E (R173). -/
def execLdIndHlE (s : State) : Result := retire 1 8 (ldHlR .e) s

/-- LD (HL),H (R173). -/
def execLdIndHlH (s : State) : Result := retire 1 8 (ldHlR .h) s

/-- LD (HL),L (R173). -/
def execLdIndHlL (s : State) : Result := retire 1 8 (ldHlR .l) s

/-- LD (HL),A (R173). -/
def execLdIndHlA (s : State) : Result := retire 1 8 (ldHlR .a) s

/-- LD A,B (R170). -/
def execLdAB (s : State) : Result := retire 1 4 (ldRR .a .b) s

/-- LD A,C (R170). -/
def execLdAC (s : State) : Result := retire 1 4 (ldRR .a .c) s

/-- LD A,D (R170). -/
def execLdAD (s : State) : Result := retire 1 4 (ldRR .a .d) s

/-- LD A,E (R170). -/
def execLdAE (s : State) : Result := retire 1 4 (ldRR .a .e) s

/-- LD A,H (R170). -/
def execLdAH (s : State) : Result := retire 1 4 (ldRR .a .h) s

/-- LD A,L (R170). -/
def execLdAL (s : State) : Result := retire 1 4 (ldRR .a .l) s

/-- LD A,(HL) (R172). -/
def execLdAIndHl (s : State) : Result := retire 1 8 (ldRHl .a) s

/-- LD A,A (R170). -/
def execLdAA (s : State) : Result := retire 1 4 (ldRR .a .a) s

/-- LDH (a8),A (R184). -/
def execLdhIndA8A (n : Byte) (s : State) : Result := retire 2 12 (storeA (highPage n)) s

/-- LDH (C),A (R182). -/
def execLdhIndCA (s : State) : Result := retire 1 8 (fun u => storeA (highPage u.regs.c) u) s

/-- LD (a16),A (R180). -/
def execLdIndA16A (a : Word) (s : State) : Result := retire 3 16 (storeA a) s

/-- LDH A,(a8) (R183). -/
def execLdhAIndA8 (n : Byte) (s : State) : Result := retire 2 12 (loadA (highPage n)) s

/-- LDH A,(C) (R181). -/
def execLdhAIndC (s : State) : Result := retire 1 8 (fun u => loadA (highPage u.regs.c) u) s

/-- LD A,(a16) (R179). -/
def execLdAIndA16 (a : Word) (s : State) : Result := retire 3 16 (loadA a) s

end Sys2Proof.Machine
end

