-- ==== Sys2Proof/WellFormed.lean ====
section
/-! DEFINITION. Which instruction terms stand for an instruction of the machine. -/

namespace Sys2Proof

/-- Every term is an instruction but `prefixCb`: "Byte 0xCB in the primary table is not an instruction by itself", the pair
of bytes is the instruction of the secondary table (46_cpu_control.md R327, 30_encoding.md R150; log 7, DESIGN CHOICE, safe). Operands need
no check: every value of every operand field is defined (30_encoding.md R153, 44_rotate_shift_bit.md R297). -/
def WellFormed : Instr → Bool
  | .prefixCb _ => false
  | _ => true

end Sys2Proof
end

