-- ==== Sys2Proof/Decode.lean ====
section
/-! DEFINITION. Decoding: the two opcode grids (30_encoding.md R149, R151), instruction lengths (R154), the encoder, and
the reading of a word of the opcode table. -/

namespace Sys2Proof

/-- Row 0x of the secondary grid (30_encoding.md R151). -/
def secondary0 (x : Nat) : Instr :=
  match x with
  | 0 => .rlcB
  | 1 => .rlcC
  | 2 => .rlcD
  | 3 => .rlcE
  | 4 => .rlcH
  | 5 => .rlcL
  | 6 => .rlcIndHl
  | 7 => .rlcA
  | 8 => .rrcB
  | 9 => .rrcC
  | 10 => .rrcD
  | 11 => .rrcE
  | 12 => .rrcH
  | 13 => .rrcL
  | 14 => .rrcIndHl
  | _ => .rrcA

/-- Row 1x of the secondary grid (30_encoding.md R151). -/
def secondary1 (x : Nat) : Instr :=
  match x with
  | 0 => .rlB
  | 1 => .rlC
  | 2 => .rlD
  | 3 => .rlE
  | 4 => .rlH
  | 5 => .rlL
  | 6 => .rlIndHl
  | 7 => .rlA
  | 8 => .rrB
  | 9 => .rrC
  | 10 => .rrD
  | 11 => .rrE
  | 12 => .rrH
  | 13 => .rrL
  | 14 => .rrIndHl
  | _ => .rrA

/-- Row 2x of the secondary grid (30_encoding.md R151). -/
def secondary2 (x : Nat) : Instr :=
  match x with
  | 0 => .slaB
  | 1 => .slaC
  | 2 => .slaD
  | 3 => .slaE
  | 4 => .slaH
  | 5 => .slaL
  | 6 => .slaIndHl
  | 7 => .slaA
  | 8 => .sraB
  | 9 => .sraC
  | 10 => .sraD
  | 11 => .sraE
  | 12 => .sraH
  | 13 => .sraL
  | 14 => .sraIndHl
  | _ => .sraA

/-- Row 3x of the secondary grid (30_encoding.md R151). -/
def secondary3 (x : Nat) : Instr :=
  match x with
  | 0 => .swapB
  | 1 => .swapC
  | 2 => .swapD
  | 3 => .swapE
  | 4 => .swapH
  | 5 => .swapL
  | 6 => .swapIndHl
  | 7 => .swapA
  | 8 => .srlB
  | 9 => .srlC
  | 10 => .srlD
  | 11 => .srlE
  | 12 => .srlH
  | 13 => .srlL
  | 14 => .srlIndHl
  | _ => .srlA

/-- Row 4x of the secondary grid (30_encoding.md R151). -/
def secondary4 (x : Nat) : Instr :=
  match x with
  | 0 => .bit0B
  | 1 => .bit0C
  | 2 => .bit0D
  | 3 => .bit0E
  | 4 => .bit0H
  | 5 => .bit0L
  | 6 => .bit0IndHl
  | 7 => .bit0A
  | 8 => .bit1B
  | 9 => .bit1C
  | 10 => .bit1D
  | 11 => .bit1E
  | 12 => .bit1H
  | 13 => .bit1L
  | 14 => .bit1IndHl
  | _ => .bit1A

/-- Row 5x of the secondary grid (30_encoding.md R151). -/
def secondary5 (x : Nat) : Instr :=
  match x with
  | 0 => .bit2B
  | 1 => .bit2C
  | 2 => .bit2D
  | 3 => .bit2E
  | 4 => .bit2H
  | 5 => .bit2L
  | 6 => .bit2IndHl
  | 7 => .bit2A
  | 8 => .bit3B
  | 9 => .bit3C
  | 10 => .bit3D
  | 11 => .bit3E
  | 12 => .bit3H
  | 13 => .bit3L
  | 14 => .bit3IndHl
  | _ => .bit3A

/-- Row 6x of the secondary grid (30_encoding.md R151). -/
def secondary6 (x : Nat) : Instr :=
  match x with
  | 0 => .bit4B
  | 1 => .bit4C
  | 2 => .bit4D
  | 3 => .bit4E
  | 4 => .bit4H
  | 5 => .bit4L
  | 6 => .bit4IndHl
  | 7 => .bit4A
  | 8 => .bit5B
  | 9 => .bit5C
  | 10 => .bit5D
  | 11 => .bit5E
  | 12 => .bit5H
  | 13 => .bit5L
  | 14 => .bit5IndHl
  | _ => .bit5A

/-- Row 7x of the secondary grid (30_encoding.md R151). -/
def secondary7 (x : Nat) : Instr :=
  match x with
  | 0 => .bit6B
  | 1 => .bit6C
  | 2 => .bit6D
  | 3 => .bit6E
  | 4 => .bit6H
  | 5 => .bit6L
  | 6 => .bit6IndHl
  | 7 => .bit6A
  | 8 => .bit7B
  | 9 => .bit7C
  | 10 => .bit7D
  | 11 => .bit7E
  | 12 => .bit7H
  | 13 => .bit7L
  | 14 => .bit7IndHl
  | _ => .bit7A

/-- Row 8x of the secondary grid (30_encoding.md R151). -/
def secondary8 (x : Nat) : Instr :=
  match x with
  | 0 => .res0B
  | 1 => .res0C
  | 2 => .res0D
  | 3 => .res0E
  | 4 => .res0H
  | 5 => .res0L
  | 6 => .res0IndHl
  | 7 => .res0A
  | 8 => .res1B
  | 9 => .res1C
  | 10 => .res1D
  | 11 => .res1E
  | 12 => .res1H
  | 13 => .res1L
  | 14 => .res1IndHl
  | _ => .res1A

/-- Row 9x of the secondary grid (30_encoding.md R151). -/
def secondary9 (x : Nat) : Instr :=
  match x with
  | 0 => .res2B
  | 1 => .res2C
  | 2 => .res2D
  | 3 => .res2E
  | 4 => .res2H
  | 5 => .res2L
  | 6 => .res2IndHl
  | 7 => .res2A
  | 8 => .res3B
  | 9 => .res3C
  | 10 => .res3D
  | 11 => .res3E
  | 12 => .res3H
  | 13 => .res3L
  | 14 => .res3IndHl
  | _ => .res3A

/-- Row Ax of the secondary grid (30_encoding.md R151). -/
def secondaryA (x : Nat) : Instr :=
  match x with
  | 0 => .res4B
  | 1 => .res4C
  | 2 => .res4D
  | 3 => .res4E
  | 4 => .res4H
  | 5 => .res4L
  | 6 => .res4IndHl
  | 7 => .res4A
  | 8 => .res5B
  | 9 => .res5C
  | 10 => .res5D
  | 11 => .res5E
  | 12 => .res5H
  | 13 => .res5L
  | 14 => .res5IndHl
  | _ => .res5A

/-- Row Bx of the secondary grid (30_encoding.md R151). -/
def secondaryB (x : Nat) : Instr :=
  match x with
  | 0 => .res6B
  | 1 => .res6C
  | 2 => .res6D
  | 3 => .res6E
  | 4 => .res6H
  | 5 => .res6L
  | 6 => .res6IndHl
  | 7 => .res6A
  | 8 => .res7B
  | 9 => .res7C
  | 10 => .res7D
  | 11 => .res7E
  | 12 => .res7H
  | 13 => .res7L
  | 14 => .res7IndHl
  | _ => .res7A

/-- Row Cx of the secondary grid (30_encoding.md R151). -/
def secondaryC (x : Nat) : Instr :=
  match x with
  | 0 => .set0B
  | 1 => .set0C
  | 2 => .set0D
  | 3 => .set0E
  | 4 => .set0H
  | 5 => .set0L
  | 6 => .set0IndHl
  | 7 => .set0A
  | 8 => .set1B
  | 9 => .set1C
  | 10 => .set1D
  | 11 => .set1E
  | 12 => .set1H
  | 13 => .set1L
  | 14 => .set1IndHl
  | _ => .set1A

/-- Row Dx of the secondary grid (30_encoding.md R151). -/
def secondaryD (x : Nat) : Instr :=
  match x with
  | 0 => .set2B
  | 1 => .set2C
  | 2 => .set2D
  | 3 => .set2E
  | 4 => .set2H
  | 5 => .set2L
  | 6 => .set2IndHl
  | 7 => .set2A
  | 8 => .set3B
  | 9 => .set3C
  | 10 => .set3D
  | 11 => .set3E
  | 12 => .set3H
  | 13 => .set3L
  | 14 => .set3IndHl
  | _ => .set3A

/-- Row Ex of the secondary grid (30_encoding.md R151). -/
def secondaryE (x : Nat) : Instr :=
  match x with
  | 0 => .set4B
  | 1 => .set4C
  | 2 => .set4D
  | 3 => .set4E
  | 4 => .set4H
  | 5 => .set4L
  | 6 => .set4IndHl
  | 7 => .set4A
  | 8 => .set5B
  | 9 => .set5C
  | 10 => .set5D
  | 11 => .set5E
  | 12 => .set5H
  | 13 => .set5L
  | 14 => .set5IndHl
  | _ => .set5A

/-- Row Fx of the secondary grid (30_encoding.md R151). -/
def secondaryF (x : Nat) : Instr :=
  match x with
  | 0 => .set6B
  | 1 => .set6C
  | 2 => .set6D
  | 3 => .set6E
  | 4 => .set6H
  | 5 => .set6L
  | 6 => .set6IndHl
  | 7 => .set6A
  | 8 => .set7B
  | 9 => .set7C
  | 10 => .set7D
  | 11 => .set7E
  | 12 => .set7H
  | 13 => .set7L
  | 14 => .set7IndHl
  | _ => .set7A

/-- The secondary table, by the byte after the prefix; all 256 values are defined (30_encoding.md R150, R151). -/
def decodeSecondary (op2 : Byte) : Instr :=
  match op2.toNat / 16 with
  | 0 => secondary0 (op2.toNat % 16)
  | 1 => secondary1 (op2.toNat % 16)
  | 2 => secondary2 (op2.toNat % 16)
  | 3 => secondary3 (op2.toNat % 16)
  | 4 => secondary4 (op2.toNat % 16)
  | 5 => secondary5 (op2.toNat % 16)
  | 6 => secondary6 (op2.toNat % 16)
  | 7 => secondary7 (op2.toNat % 16)
  | 8 => secondary8 (op2.toNat % 16)
  | 9 => secondary9 (op2.toNat % 16)
  | 10 => secondaryA (op2.toNat % 16)
  | 11 => secondaryB (op2.toNat % 16)
  | 12 => secondaryC (op2.toNat % 16)
  | 13 => secondaryD (op2.toNat % 16)
  | 14 => secondaryE (op2.toNat % 16)
  | _ => secondaryF (op2.toNat % 16)

/-- Row 0x of the primary grid (30_encoding.md R149). -/
def primary0 (x : Nat) (b1 b2 : Byte) : Instr :=
  match x with
  | 0 => .nop
  | 1 => .ldBcD16 (join b2 b1)
  | 2 => .ldIndBcA
  | 3 => .incBc
  | 4 => .incB
  | 5 => .decB
  | 6 => .ldBD8 b1
  | 7 => .rlca
  | 8 => .ldIndA16Sp (join b2 b1)
  | 9 => .addHlBc
  | 10 => .ldAIndBc
  | 11 => .decBc
  | 12 => .incC
  | 13 => .decC
  | 14 => .ldCD8 b1
  | _ => .rrca

/-- Row 1x of the primary grid (30_encoding.md R149). -/
def primary1 (x : Nat) (b1 b2 : Byte) : Instr :=
  match x with
  | 0 => .stop
  | 1 => .ldDeD16 (join b2 b1)
  | 2 => .ldIndDeA
  | 3 => .incDe
  | 4 => .incD
  | 5 => .decD
  | 6 => .ldDD8 b1
  | 7 => .rla
  | 8 => .jrE8 b1
  | 9 => .addHlDe
  | 10 => .ldAIndDe
  | 11 => .decDe
  | 12 => .incE
  | 13 => .decE
  | 14 => .ldED8 b1
  | _ => .rra

/-- Row 2x of the primary grid (30_encoding.md R149). -/
def primary2 (x : Nat) (b1 b2 : Byte) : Instr :=
  match x with
  | 0 => .jrNzE8 b1
  | 1 => .ldHlD16 (join b2 b1)
  | 2 => .ldIndHlIncA
  | 3 => .incHl
  | 4 => .incH
  | 5 => .decH
  | 6 => .ldHD8 b1
  | 7 => .daa
  | 8 => .jrZE8 b1
  | 9 => .addHlHl
  | 10 => .ldAIndHlInc
  | 11 => .decHl
  | 12 => .incL
  | 13 => .decL
  | 14 => .ldLD8 b1
  | _ => .cpl

/-- Row 3x of the primary grid (30_encoding.md R149). -/
def primary3 (x : Nat) (b1 b2 : Byte) : Instr :=
  match x with
  | 0 => .jrNcE8 b1
  | 1 => .ldSpD16 (join b2 b1)
  | 2 => .ldIndHlDecA
  | 3 => .incSp
  | 4 => .incIndHl
  | 5 => .decIndHl
  | 6 => .ldIndHlD8 b1
  | 7 => .scf
  | 8 => .jrCE8 b1
  | 9 => .addHlSp
  | 10 => .ldAIndHlDec
  | 11 => .decSp
  | 12 => .incA
  | 13 => .decA
  | 14 => .ldAD8 b1
  | _ => .ccf

/-- Row 4x of the primary grid (30_encoding.md R149). -/
def primary4 (x : Nat) (_ _ : Byte) : Instr :=
  match x with
  | 0 => .ldBB
  | 1 => .ldBC
  | 2 => .ldBD
  | 3 => .ldBE
  | 4 => .ldBH
  | 5 => .ldBL
  | 6 => .ldBIndHl
  | 7 => .ldBA
  | 8 => .ldCB
  | 9 => .ldCC
  | 10 => .ldCD
  | 11 => .ldCE
  | 12 => .ldCH
  | 13 => .ldCL
  | 14 => .ldCIndHl
  | _ => .ldCA

/-- Row 5x of the primary grid (30_encoding.md R149). -/
def primary5 (x : Nat) (_ _ : Byte) : Instr :=
  match x with
  | 0 => .ldDB
  | 1 => .ldDC
  | 2 => .ldDD
  | 3 => .ldDE
  | 4 => .ldDH
  | 5 => .ldDL
  | 6 => .ldDIndHl
  | 7 => .ldDA
  | 8 => .ldEB
  | 9 => .ldEC
  | 10 => .ldED
  | 11 => .ldEE
  | 12 => .ldEH
  | 13 => .ldEL
  | 14 => .ldEIndHl
  | _ => .ldEA

/-- Row 6x of the primary grid (30_encoding.md R149). -/
def primary6 (x : Nat) (_ _ : Byte) : Instr :=
  match x with
  | 0 => .ldHB
  | 1 => .ldHC
  | 2 => .ldHD
  | 3 => .ldHE
  | 4 => .ldHH
  | 5 => .ldHL
  | 6 => .ldHIndHl
  | 7 => .ldHA
  | 8 => .ldLB
  | 9 => .ldLC
  | 10 => .ldLD
  | 11 => .ldLE
  | 12 => .ldLH
  | 13 => .ldLL
  | 14 => .ldLIndHl
  | _ => .ldLA

/-- Row 7x of the primary grid (30_encoding.md R149). -/
def primary7 (x : Nat) (_ _ : Byte) : Instr :=
  match x with
  | 0 => .ldIndHlB
  | 1 => .ldIndHlC
  | 2 => .ldIndHlD
  | 3 => .ldIndHlE
  | 4 => .ldIndHlH
  | 5 => .ldIndHlL
  | 6 => .halt
  | 7 => .ldIndHlA
  | 8 => .ldAB
  | 9 => .ldAC
  | 10 => .ldAD
  | 11 => .ldAE
  | 12 => .ldAH
  | 13 => .ldAL
  | 14 => .ldAIndHl
  | _ => .ldAA

/-- Row 8x of the primary grid (30_encoding.md R149). -/
def primary8 (x : Nat) (_ _ : Byte) : Instr :=
  match x with
  | 0 => .addAB
  | 1 => .addAC
  | 2 => .addAD
  | 3 => .addAE
  | 4 => .addAH
  | 5 => .addAL
  | 6 => .addAIndHl
  | 7 => .addAA
  | 8 => .adcAB
  | 9 => .adcAC
  | 10 => .adcAD
  | 11 => .adcAE
  | 12 => .adcAH
  | 13 => .adcAL
  | 14 => .adcAIndHl
  | _ => .adcAA

/-- Row 9x of the primary grid (30_encoding.md R149). -/
def primary9 (x : Nat) (_ _ : Byte) : Instr :=
  match x with
  | 0 => .subAB
  | 1 => .subAC
  | 2 => .subAD
  | 3 => .subAE
  | 4 => .subAH
  | 5 => .subAL
  | 6 => .subAIndHl
  | 7 => .subAA
  | 8 => .sbcAB
  | 9 => .sbcAC
  | 10 => .sbcAD
  | 11 => .sbcAE
  | 12 => .sbcAH
  | 13 => .sbcAL
  | 14 => .sbcAIndHl
  | _ => .sbcAA

/-- Row Ax of the primary grid (30_encoding.md R149). -/
def primaryA (x : Nat) (_ _ : Byte) : Instr :=
  match x with
  | 0 => .andAB
  | 1 => .andAC
  | 2 => .andAD
  | 3 => .andAE
  | 4 => .andAH
  | 5 => .andAL
  | 6 => .andAIndHl
  | 7 => .andAA
  | 8 => .xorAB
  | 9 => .xorAC
  | 10 => .xorAD
  | 11 => .xorAE
  | 12 => .xorAH
  | 13 => .xorAL
  | 14 => .xorAIndHl
  | _ => .xorAA

/-- Row Bx of the primary grid (30_encoding.md R149). -/
def primaryB (x : Nat) (_ _ : Byte) : Instr :=
  match x with
  | 0 => .orAB
  | 1 => .orAC
  | 2 => .orAD
  | 3 => .orAE
  | 4 => .orAH
  | 5 => .orAL
  | 6 => .orAIndHl
  | 7 => .orAA
  | 8 => .cpAB
  | 9 => .cpAC
  | 10 => .cpAD
  | 11 => .cpAE
  | 12 => .cpAH
  | 13 => .cpAL
  | 14 => .cpAIndHl
  | _ => .cpAA

/-- Row Cx of the primary grid (30_encoding.md R149). -/
def primaryC (x : Nat) (b1 b2 : Byte) : Instr :=
  match x with
  | 0 => .retNz
  | 1 => .popBc
  | 2 => .jpNzA16 (join b2 b1)
  | 3 => .jpA16 (join b2 b1)
  | 4 => .callNzA16 (join b2 b1)
  | 5 => .pushBc
  | 6 => .addAD8 b1
  | 7 => .rst00
  | 8 => .retZ
  | 9 => .ret
  | 10 => .jpZA16 (join b2 b1)
  | 11 => decodeSecondary b1
  | 12 => .callZA16 (join b2 b1)
  | 13 => .callA16 (join b2 b1)
  | 14 => .adcAD8 b1
  | _ => .rst08

/-- Row Dx of the primary grid (30_encoding.md R149). -/
def primaryD (x : Nat) (b1 b2 : Byte) : Instr :=
  match x with
  | 0 => .retNc
  | 1 => .popDe
  | 2 => .jpNcA16 (join b2 b1)
  | 3 => .illegalD3
  | 4 => .callNcA16 (join b2 b1)
  | 5 => .pushDe
  | 6 => .subAD8 b1
  | 7 => .rst10
  | 8 => .retC
  | 9 => .reti
  | 10 => .jpCA16 (join b2 b1)
  | 11 => .illegalDB
  | 12 => .callCA16 (join b2 b1)
  | 13 => .illegalDD
  | 14 => .sbcAD8 b1
  | _ => .rst18

/-- Row Ex of the primary grid (30_encoding.md R149). -/
def primaryE (x : Nat) (b1 b2 : Byte) : Instr :=
  match x with
  | 0 => .ldhIndA8A b1
  | 1 => .popHl
  | 2 => .ldhIndCA
  | 3 => .illegalE3
  | 4 => .illegalE4
  | 5 => .pushHl
  | 6 => .andAD8 b1
  | 7 => .rst20
  | 8 => .addSpE8 b1
  | 9 => .jpHl
  | 10 => .ldIndA16A (join b2 b1)
  | 11 => .illegalEB
  | 12 => .illegalEC
  | 13 => .illegalED
  | 14 => .xorAD8 b1
  | _ => .rst28

/-- Row Fx of the primary grid (30_encoding.md R149). -/
def primaryF (x : Nat) (b1 b2 : Byte) : Instr :=
  match x with
  | 0 => .ldhAIndA8 b1
  | 1 => .popAf
  | 2 => .ldhAIndC
  | 3 => .di
  | 4 => .illegalF4
  | 5 => .pushAf
  | 6 => .orAD8 b1
  | 7 => .rst30
  | 8 => .ldHlSpE8 b1
  | 9 => .ldSpHl
  | 10 => .ldAIndA16 (join b2 b1)
  | 11 => .ei
  | 12 => .illegalFC
  | 13 => .illegalFD
  | 14 => .cpAD8 b1
  | _ => .rst38

/-- The instruction whose first byte is `b0`, followed in the stream by `b1` and `b2` (30_encoding.md R148, R149). -/
def decodeBytes (b0 b1 b2 : Byte) : Instr :=
  match b0.toNat / 16 with
  | 0 => primary0 (b0.toNat % 16) b1 b2
  | 1 => primary1 (b0.toNat % 16) b1 b2
  | 2 => primary2 (b0.toNat % 16) b1 b2
  | 3 => primary3 (b0.toNat % 16) b1 b2
  | 4 => primary4 (b0.toNat % 16) b1 b2
  | 5 => primary5 (b0.toNat % 16) b1 b2
  | 6 => primary6 (b0.toNat % 16) b1 b2
  | 7 => primary7 (b0.toNat % 16) b1 b2
  | 8 => primary8 (b0.toNat % 16) b1 b2
  | 9 => primary9 (b0.toNat % 16) b1 b2
  | 10 => primaryA (b0.toNat % 16) b1 b2
  | 11 => primaryB (b0.toNat % 16) b1 b2
  | 12 => primaryC (b0.toNat % 16) b1 b2
  | 13 => primaryD (b0.toNat % 16) b1 b2
  | 14 => primaryE (b0.toNat % 16) b1 b2
  | _ => primaryF (b0.toNat % 16) b1 b2

/-- The opcode bytes of the three-byte formats OP_D16 and OP_A16 (30_encoding.md R142, R149). -/
def threeByteOpcodes : List Nat :=
  [0x01, 0x08, 0x11, 0x21, 0x31, 0xC2, 0xC3, 0xC4, 0xCA, 0xCC, 0xCD, 0xD2, 0xD4, 0xDA, 0xDC, 0xEA, 0xFA]

/-- The opcode bytes of the two-byte formats OP_D8, OP_E8, OP_A8 and CB (30_encoding.md R142, R149). -/
def twoByteOpcodes : List Nat :=
  [0x06, 0x0E, 0x10, 0x16, 0x18, 0x1E, 0x20, 0x26, 0x28, 0x2E, 0x30, 0x36, 0x38, 0x3E, 0xC6, 0xCB, 0xCE, 0xD6, 0xDE, 0xE0, 0xE6, 0xE8, 0xEE, 0xF0, 0xF6, 0xF8, 0xFE]

/-- The length of an instruction, a function of byte 0 alone (30_encoding.md R154). -/
def lengthOf (b0 : Byte) : Nat :=
  if threeByteOpcodes.contains b0.toNat then 3 else if twoByteOpcodes.contains b0.toNat then 2 else 1

/-- Why a byte sequence holds no whole instruction. Every first byte has an instruction: the bytes without a handler
decode to the `illegal` instructions and `stop`, whose meaning is the exception (30_encoding.md R152). -/
inductive DecodeError where
  /-- Fewer bytes than the instruction's length. -/
  | truncated
  deriving DecidableEq, Repr

/-- The instruction at the head of a byte sequence, and the bytes after it. -/
def decode (bytes : List Byte) : Except DecodeError (Instr × List Byte) :=
  match bytes with
  | [] => .error .truncated
  | b0 :: rest =>
    if rest.length + 1 < lengthOf b0 then .error .truncated
    else .ok (decodeBytes b0 (rest.getD 0 0x00#8) (rest.getD 1 0x00#8), rest.drop (lengthOf b0 - 1))

/-- The bytes of an instruction, in stream order (30_encoding.md R142, R149, R151). The second byte of STOP, which is
ignored, is 0x00 (46_cpu_control.md R324). -/
def encode : Instr → List Byte
  | .nop => [0x00#8]
  | .ldBcD16 v => [0x01#8, lo v, hi v]
  | .ldIndBcA => [0x02#8]
  | .incBc => [0x03#8]
  | .incB => [0x04#8]
  | .decB => [0x05#8]
  | .ldBD8 v => [0x06#8, v]
  | .rlca => [0x07#8]
  | .ldIndA16Sp a => [0x08#8, lo a, hi a]
  | .addHlBc => [0x09#8]
  | .ldAIndBc => [0x0A#8]
  | .decBc => [0x0B#8]
  | .incC => [0x0C#8]
  | .decC => [0x0D#8]
  | .ldCD8 v => [0x0E#8, v]
  | .rrca => [0x0F#8]
  | .stop => [0x10#8, 0x00#8]
  | .ldDeD16 v => [0x11#8, lo v, hi v]
  | .ldIndDeA => [0x12#8]
  | .incDe => [0x13#8]
  | .incD => [0x14#8]
  | .decD => [0x15#8]
  | .ldDD8 v => [0x16#8, v]
  | .rla => [0x17#8]
  | .jrE8 e => [0x18#8, e]
  | .addHlDe => [0x19#8]
  | .ldAIndDe => [0x1A#8]
  | .decDe => [0x1B#8]
  | .incE => [0x1C#8]
  | .decE => [0x1D#8]
  | .ldED8 v => [0x1E#8, v]
  | .rra => [0x1F#8]
  | .jrNzE8 e => [0x20#8, e]
  | .ldHlD16 v => [0x21#8, lo v, hi v]
  | .ldIndHlIncA => [0x22#8]
  | .incHl => [0x23#8]
  | .incH => [0x24#8]
  | .decH => [0x25#8]
  | .ldHD8 v => [0x26#8, v]
  | .daa => [0x27#8]
  | .jrZE8 e => [0x28#8, e]
  | .addHlHl => [0x29#8]
  | .ldAIndHlInc => [0x2A#8]
  | .decHl => [0x2B#8]
  | .incL => [0x2C#8]
  | .decL => [0x2D#8]
  | .ldLD8 v => [0x2E#8, v]
  | .cpl => [0x2F#8]
  | .jrNcE8 e => [0x30#8, e]
  | .ldSpD16 v => [0x31#8, lo v, hi v]
  | .ldIndHlDecA => [0x32#8]
  | .incSp => [0x33#8]
  | .incIndHl => [0x34#8]
  | .decIndHl => [0x35#8]
  | .ldIndHlD8 v => [0x36#8, v]
  | .scf => [0x37#8]
  | .jrCE8 e => [0x38#8, e]
  | .addHlSp => [0x39#8]
  | .ldAIndHlDec => [0x3A#8]
  | .decSp => [0x3B#8]
  | .incA => [0x3C#8]
  | .decA => [0x3D#8]
  | .ldAD8 v => [0x3E#8, v]
  | .ccf => [0x3F#8]
  | .ldBB => [0x40#8]
  | .ldBC => [0x41#8]
  | .ldBD => [0x42#8]
  | .ldBE => [0x43#8]
  | .ldBH => [0x44#8]
  | .ldBL => [0x45#8]
  | .ldBIndHl => [0x46#8]
  | .ldBA => [0x47#8]
  | .ldCB => [0x48#8]
  | .ldCC => [0x49#8]
  | .ldCD => [0x4A#8]
  | .ldCE => [0x4B#8]
  | .ldCH => [0x4C#8]
  | .ldCL => [0x4D#8]
  | .ldCIndHl => [0x4E#8]
  | .ldCA => [0x4F#8]
  | .ldDB => [0x50#8]
  | .ldDC => [0x51#8]
  | .ldDD => [0x52#8]
  | .ldDE => [0x53#8]
  | .ldDH => [0x54#8]
  | .ldDL => [0x55#8]
  | .ldDIndHl => [0x56#8]
  | .ldDA => [0x57#8]
  | .ldEB => [0x58#8]
  | .ldEC => [0x59#8]
  | .ldED => [0x5A#8]
  | .ldEE => [0x5B#8]
  | .ldEH => [0x5C#8]
  | .ldEL => [0x5D#8]
  | .ldEIndHl => [0x5E#8]
  | .ldEA => [0x5F#8]
  | .ldHB => [0x60#8]
  | .ldHC => [0x61#8]
  | .ldHD => [0x62#8]
  | .ldHE => [0x63#8]
  | .ldHH => [0x64#8]
  | .ldHL => [0x65#8]
  | .ldHIndHl => [0x66#8]
  | .ldHA => [0x67#8]
  | .ldLB => [0x68#8]
  | .ldLC => [0x69#8]
  | .ldLD => [0x6A#8]
  | .ldLE => [0x6B#8]
  | .ldLH => [0x6C#8]
  | .ldLL => [0x6D#8]
  | .ldLIndHl => [0x6E#8]
  | .ldLA => [0x6F#8]
  | .ldIndHlB => [0x70#8]
  | .ldIndHlC => [0x71#8]
  | .ldIndHlD => [0x72#8]
  | .ldIndHlE => [0x73#8]
  | .ldIndHlH => [0x74#8]
  | .ldIndHlL => [0x75#8]
  | .halt => [0x76#8]
  | .ldIndHlA => [0x77#8]
  | .ldAB => [0x78#8]
  | .ldAC => [0x79#8]
  | .ldAD => [0x7A#8]
  | .ldAE => [0x7B#8]
  | .ldAH => [0x7C#8]
  | .ldAL => [0x7D#8]
  | .ldAIndHl => [0x7E#8]
  | .ldAA => [0x7F#8]
  | .addAB => [0x80#8]
  | .addAC => [0x81#8]
  | .addAD => [0x82#8]
  | .addAE => [0x83#8]
  | .addAH => [0x84#8]
  | .addAL => [0x85#8]
  | .addAIndHl => [0x86#8]
  | .addAA => [0x87#8]
  | .adcAB => [0x88#8]
  | .adcAC => [0x89#8]
  | .adcAD => [0x8A#8]
  | .adcAE => [0x8B#8]
  | .adcAH => [0x8C#8]
  | .adcAL => [0x8D#8]
  | .adcAIndHl => [0x8E#8]
  | .adcAA => [0x8F#8]
  | .subAB => [0x90#8]
  | .subAC => [0x91#8]
  | .subAD => [0x92#8]
  | .subAE => [0x93#8]
  | .subAH => [0x94#8]
  | .subAL => [0x95#8]
  | .subAIndHl => [0x96#8]
  | .subAA => [0x97#8]
  | .sbcAB => [0x98#8]
  | .sbcAC => [0x99#8]
  | .sbcAD => [0x9A#8]
  | .sbcAE => [0x9B#8]
  | .sbcAH => [0x9C#8]
  | .sbcAL => [0x9D#8]
  | .sbcAIndHl => [0x9E#8]
  | .sbcAA => [0x9F#8]
  | .andAB => [0xA0#8]
  | .andAC => [0xA1#8]
  | .andAD => [0xA2#8]
  | .andAE => [0xA3#8]
  | .andAH => [0xA4#8]
  | .andAL => [0xA5#8]
  | .andAIndHl => [0xA6#8]
  | .andAA => [0xA7#8]
  | .xorAB => [0xA8#8]
  | .xorAC => [0xA9#8]
  | .xorAD => [0xAA#8]
  | .xorAE => [0xAB#8]
  | .xorAH => [0xAC#8]
  | .xorAL => [0xAD#8]
  | .xorAIndHl => [0xAE#8]
  | .xorAA => [0xAF#8]
  | .orAB => [0xB0#8]
  | .orAC => [0xB1#8]
  | .orAD => [0xB2#8]
  | .orAE => [0xB3#8]
  | .orAH => [0xB4#8]
  | .orAL => [0xB5#8]
  | .orAIndHl => [0xB6#8]
  | .orAA => [0xB7#8]
  | .cpAB => [0xB8#8]
  | .cpAC => [0xB9#8]
  | .cpAD => [0xBA#8]
  | .cpAE => [0xBB#8]
  | .cpAH => [0xBC#8]
  | .cpAL => [0xBD#8]
  | .cpAIndHl => [0xBE#8]
  | .cpAA => [0xBF#8]
  | .retNz => [0xC0#8]
  | .popBc => [0xC1#8]
  | .jpNzA16 a => [0xC2#8, lo a, hi a]
  | .jpA16 a => [0xC3#8, lo a, hi a]
  | .callNzA16 a => [0xC4#8, lo a, hi a]
  | .pushBc => [0xC5#8]
  | .addAD8 v => [0xC6#8, v]
  | .rst00 => [0xC7#8]
  | .retZ => [0xC8#8]
  | .ret => [0xC9#8]
  | .jpZA16 a => [0xCA#8, lo a, hi a]
  | .prefixCb op2 => [0xCB#8, op2]
  | .callZA16 a => [0xCC#8, lo a, hi a]
  | .callA16 a => [0xCD#8, lo a, hi a]
  | .adcAD8 v => [0xCE#8, v]
  | .rst08 => [0xCF#8]
  | .retNc => [0xD0#8]
  | .popDe => [0xD1#8]
  | .jpNcA16 a => [0xD2#8, lo a, hi a]
  | .illegalD3 => [0xD3#8]
  | .callNcA16 a => [0xD4#8, lo a, hi a]
  | .pushDe => [0xD5#8]
  | .subAD8 v => [0xD6#8, v]
  | .rst10 => [0xD7#8]
  | .retC => [0xD8#8]
  | .reti => [0xD9#8]
  | .jpCA16 a => [0xDA#8, lo a, hi a]
  | .illegalDB => [0xDB#8]
  | .callCA16 a => [0xDC#8, lo a, hi a]
  | .illegalDD => [0xDD#8]
  | .sbcAD8 v => [0xDE#8, v]
  | .rst18 => [0xDF#8]
  | .ldhIndA8A n => [0xE0#8, n]
  | .popHl => [0xE1#8]
  | .ldhIndCA => [0xE2#8]
  | .illegalE3 => [0xE3#8]
  | .illegalE4 => [0xE4#8]
  | .pushHl => [0xE5#8]
  | .andAD8 v => [0xE6#8, v]
  | .rst20 => [0xE7#8]
  | .addSpE8 e => [0xE8#8, e]
  | .jpHl => [0xE9#8]
  | .ldIndA16A a => [0xEA#8, lo a, hi a]
  | .illegalEB => [0xEB#8]
  | .illegalEC => [0xEC#8]
  | .illegalED => [0xED#8]
  | .xorAD8 v => [0xEE#8, v]
  | .rst28 => [0xEF#8]
  | .ldhAIndA8 n => [0xF0#8, n]
  | .popAf => [0xF1#8]
  | .ldhAIndC => [0xF2#8]
  | .di => [0xF3#8]
  | .illegalF4 => [0xF4#8]
  | .pushAf => [0xF5#8]
  | .orAD8 v => [0xF6#8, v]
  | .rst30 => [0xF7#8]
  | .ldHlSpE8 e => [0xF8#8, e]
  | .ldSpHl => [0xF9#8]
  | .ldAIndA16 a => [0xFA#8, lo a, hi a]
  | .ei => [0xFB#8]
  | .illegalFC => [0xFC#8]
  | .illegalFD => [0xFD#8]
  | .cpAD8 v => [0xFE#8, v]
  | .rst38 => [0xFF#8]
  | .rlcB => [0xCB#8, 0x00#8]
  | .rlcC => [0xCB#8, 0x01#8]
  | .rlcD => [0xCB#8, 0x02#8]
  | .rlcE => [0xCB#8, 0x03#8]
  | .rlcH => [0xCB#8, 0x04#8]
  | .rlcL => [0xCB#8, 0x05#8]
  | .rlcIndHl => [0xCB#8, 0x06#8]
  | .rlcA => [0xCB#8, 0x07#8]
  | .rrcB => [0xCB#8, 0x08#8]
  | .rrcC => [0xCB#8, 0x09#8]
  | .rrcD => [0xCB#8, 0x0A#8]
  | .rrcE => [0xCB#8, 0x0B#8]
  | .rrcH => [0xCB#8, 0x0C#8]
  | .rrcL => [0xCB#8, 0x0D#8]
  | .rrcIndHl => [0xCB#8, 0x0E#8]
  | .rrcA => [0xCB#8, 0x0F#8]
  | .rlB => [0xCB#8, 0x10#8]
  | .rlC => [0xCB#8, 0x11#8]
  | .rlD => [0xCB#8, 0x12#8]
  | .rlE => [0xCB#8, 0x13#8]
  | .rlH => [0xCB#8, 0x14#8]
  | .rlL => [0xCB#8, 0x15#8]
  | .rlIndHl => [0xCB#8, 0x16#8]
  | .rlA => [0xCB#8, 0x17#8]
  | .rrB => [0xCB#8, 0x18#8]
  | .rrC => [0xCB#8, 0x19#8]
  | .rrD => [0xCB#8, 0x1A#8]
  | .rrE => [0xCB#8, 0x1B#8]
  | .rrH => [0xCB#8, 0x1C#8]
  | .rrL => [0xCB#8, 0x1D#8]
  | .rrIndHl => [0xCB#8, 0x1E#8]
  | .rrA => [0xCB#8, 0x1F#8]
  | .slaB => [0xCB#8, 0x20#8]
  | .slaC => [0xCB#8, 0x21#8]
  | .slaD => [0xCB#8, 0x22#8]
  | .slaE => [0xCB#8, 0x23#8]
  | .slaH => [0xCB#8, 0x24#8]
  | .slaL => [0xCB#8, 0x25#8]
  | .slaIndHl => [0xCB#8, 0x26#8]
  | .slaA => [0xCB#8, 0x27#8]
  | .sraB => [0xCB#8, 0x28#8]
  | .sraC => [0xCB#8, 0x29#8]
  | .sraD => [0xCB#8, 0x2A#8]
  | .sraE => [0xCB#8, 0x2B#8]
  | .sraH => [0xCB#8, 0x2C#8]
  | .sraL => [0xCB#8, 0x2D#8]
  | .sraIndHl => [0xCB#8, 0x2E#8]
  | .sraA => [0xCB#8, 0x2F#8]
  | .swapB => [0xCB#8, 0x30#8]
  | .swapC => [0xCB#8, 0x31#8]
  | .swapD => [0xCB#8, 0x32#8]
  | .swapE => [0xCB#8, 0x33#8]
  | .swapH => [0xCB#8, 0x34#8]
  | .swapL => [0xCB#8, 0x35#8]
  | .swapIndHl => [0xCB#8, 0x36#8]
  | .swapA => [0xCB#8, 0x37#8]
  | .srlB => [0xCB#8, 0x38#8]
  | .srlC => [0xCB#8, 0x39#8]
  | .srlD => [0xCB#8, 0x3A#8]
  | .srlE => [0xCB#8, 0x3B#8]
  | .srlH => [0xCB#8, 0x3C#8]
  | .srlL => [0xCB#8, 0x3D#8]
  | .srlIndHl => [0xCB#8, 0x3E#8]
  | .srlA => [0xCB#8, 0x3F#8]
  | .bit0B => [0xCB#8, 0x40#8]
  | .bit0C => [0xCB#8, 0x41#8]
  | .bit0D => [0xCB#8, 0x42#8]
  | .bit0E => [0xCB#8, 0x43#8]
  | .bit0H => [0xCB#8, 0x44#8]
  | .bit0L => [0xCB#8, 0x45#8]
  | .bit0IndHl => [0xCB#8, 0x46#8]
  | .bit0A => [0xCB#8, 0x47#8]
  | .bit1B => [0xCB#8, 0x48#8]
  | .bit1C => [0xCB#8, 0x49#8]
  | .bit1D => [0xCB#8, 0x4A#8]
  | .bit1E => [0xCB#8, 0x4B#8]
  | .bit1H => [0xCB#8, 0x4C#8]
  | .bit1L => [0xCB#8, 0x4D#8]
  | .bit1IndHl => [0xCB#8, 0x4E#8]
  | .bit1A => [0xCB#8, 0x4F#8]
  | .bit2B => [0xCB#8, 0x50#8]
  | .bit2C => [0xCB#8, 0x51#8]
  | .bit2D => [0xCB#8, 0x52#8]
  | .bit2E => [0xCB#8, 0x53#8]
  | .bit2H => [0xCB#8, 0x54#8]
  | .bit2L => [0xCB#8, 0x55#8]
  | .bit2IndHl => [0xCB#8, 0x56#8]
  | .bit2A => [0xCB#8, 0x57#8]
  | .bit3B => [0xCB#8, 0x58#8]
  | .bit3C => [0xCB#8, 0x59#8]
  | .bit3D => [0xCB#8, 0x5A#8]
  | .bit3E => [0xCB#8, 0x5B#8]
  | .bit3H => [0xCB#8, 0x5C#8]
  | .bit3L => [0xCB#8, 0x5D#8]
  | .bit3IndHl => [0xCB#8, 0x5E#8]
  | .bit3A => [0xCB#8, 0x5F#8]
  | .bit4B => [0xCB#8, 0x60#8]
  | .bit4C => [0xCB#8, 0x61#8]
  | .bit4D => [0xCB#8, 0x62#8]
  | .bit4E => [0xCB#8, 0x63#8]
  | .bit4H => [0xCB#8, 0x64#8]
  | .bit4L => [0xCB#8, 0x65#8]
  | .bit4IndHl => [0xCB#8, 0x66#8]
  | .bit4A => [0xCB#8, 0x67#8]
  | .bit5B => [0xCB#8, 0x68#8]
  | .bit5C => [0xCB#8, 0x69#8]
  | .bit5D => [0xCB#8, 0x6A#8]
  | .bit5E => [0xCB#8, 0x6B#8]
  | .bit5H => [0xCB#8, 0x6C#8]
  | .bit5L => [0xCB#8, 0x6D#8]
  | .bit5IndHl => [0xCB#8, 0x6E#8]
  | .bit5A => [0xCB#8, 0x6F#8]
  | .bit6B => [0xCB#8, 0x70#8]
  | .bit6C => [0xCB#8, 0x71#8]
  | .bit6D => [0xCB#8, 0x72#8]
  | .bit6E => [0xCB#8, 0x73#8]
  | .bit6H => [0xCB#8, 0x74#8]
  | .bit6L => [0xCB#8, 0x75#8]
  | .bit6IndHl => [0xCB#8, 0x76#8]
  | .bit6A => [0xCB#8, 0x77#8]
  | .bit7B => [0xCB#8, 0x78#8]
  | .bit7C => [0xCB#8, 0x79#8]
  | .bit7D => [0xCB#8, 0x7A#8]
  | .bit7E => [0xCB#8, 0x7B#8]
  | .bit7H => [0xCB#8, 0x7C#8]
  | .bit7L => [0xCB#8, 0x7D#8]
  | .bit7IndHl => [0xCB#8, 0x7E#8]
  | .bit7A => [0xCB#8, 0x7F#8]
  | .res0B => [0xCB#8, 0x80#8]
  | .res0C => [0xCB#8, 0x81#8]
  | .res0D => [0xCB#8, 0x82#8]
  | .res0E => [0xCB#8, 0x83#8]
  | .res0H => [0xCB#8, 0x84#8]
  | .res0L => [0xCB#8, 0x85#8]
  | .res0IndHl => [0xCB#8, 0x86#8]
  | .res0A => [0xCB#8, 0x87#8]
  | .res1B => [0xCB#8, 0x88#8]
  | .res1C => [0xCB#8, 0x89#8]
  | .res1D => [0xCB#8, 0x8A#8]
  | .res1E => [0xCB#8, 0x8B#8]
  | .res1H => [0xCB#8, 0x8C#8]
  | .res1L => [0xCB#8, 0x8D#8]
  | .res1IndHl => [0xCB#8, 0x8E#8]
  | .res1A => [0xCB#8, 0x8F#8]
  | .res2B => [0xCB#8, 0x90#8]
  | .res2C => [0xCB#8, 0x91#8]
  | .res2D => [0xCB#8, 0x92#8]
  | .res2E => [0xCB#8, 0x93#8]
  | .res2H => [0xCB#8, 0x94#8]
  | .res2L => [0xCB#8, 0x95#8]
  | .res2IndHl => [0xCB#8, 0x96#8]
  | .res2A => [0xCB#8, 0x97#8]
  | .res3B => [0xCB#8, 0x98#8]
  | .res3C => [0xCB#8, 0x99#8]
  | .res3D => [0xCB#8, 0x9A#8]
  | .res3E => [0xCB#8, 0x9B#8]
  | .res3H => [0xCB#8, 0x9C#8]
  | .res3L => [0xCB#8, 0x9D#8]
  | .res3IndHl => [0xCB#8, 0x9E#8]
  | .res3A => [0xCB#8, 0x9F#8]
  | .res4B => [0xCB#8, 0xA0#8]
  | .res4C => [0xCB#8, 0xA1#8]
  | .res4D => [0xCB#8, 0xA2#8]
  | .res4E => [0xCB#8, 0xA3#8]
  | .res4H => [0xCB#8, 0xA4#8]
  | .res4L => [0xCB#8, 0xA5#8]
  | .res4IndHl => [0xCB#8, 0xA6#8]
  | .res4A => [0xCB#8, 0xA7#8]
  | .res5B => [0xCB#8, 0xA8#8]
  | .res5C => [0xCB#8, 0xA9#8]
  | .res5D => [0xCB#8, 0xAA#8]
  | .res5E => [0xCB#8, 0xAB#8]
  | .res5H => [0xCB#8, 0xAC#8]
  | .res5L => [0xCB#8, 0xAD#8]
  | .res5IndHl => [0xCB#8, 0xAE#8]
  | .res5A => [0xCB#8, 0xAF#8]
  | .res6B => [0xCB#8, 0xB0#8]
  | .res6C => [0xCB#8, 0xB1#8]
  | .res6D => [0xCB#8, 0xB2#8]
  | .res6E => [0xCB#8, 0xB3#8]
  | .res6H => [0xCB#8, 0xB4#8]
  | .res6L => [0xCB#8, 0xB5#8]
  | .res6IndHl => [0xCB#8, 0xB6#8]
  | .res6A => [0xCB#8, 0xB7#8]
  | .res7B => [0xCB#8, 0xB8#8]
  | .res7C => [0xCB#8, 0xB9#8]
  | .res7D => [0xCB#8, 0xBA#8]
  | .res7E => [0xCB#8, 0xBB#8]
  | .res7H => [0xCB#8, 0xBC#8]
  | .res7L => [0xCB#8, 0xBD#8]
  | .res7IndHl => [0xCB#8, 0xBE#8]
  | .res7A => [0xCB#8, 0xBF#8]
  | .set0B => [0xCB#8, 0xC0#8]
  | .set0C => [0xCB#8, 0xC1#8]
  | .set0D => [0xCB#8, 0xC2#8]
  | .set0E => [0xCB#8, 0xC3#8]
  | .set0H => [0xCB#8, 0xC4#8]
  | .set0L => [0xCB#8, 0xC5#8]
  | .set0IndHl => [0xCB#8, 0xC6#8]
  | .set0A => [0xCB#8, 0xC7#8]
  | .set1B => [0xCB#8, 0xC8#8]
  | .set1C => [0xCB#8, 0xC9#8]
  | .set1D => [0xCB#8, 0xCA#8]
  | .set1E => [0xCB#8, 0xCB#8]
  | .set1H => [0xCB#8, 0xCC#8]
  | .set1L => [0xCB#8, 0xCD#8]
  | .set1IndHl => [0xCB#8, 0xCE#8]
  | .set1A => [0xCB#8, 0xCF#8]
  | .set2B => [0xCB#8, 0xD0#8]
  | .set2C => [0xCB#8, 0xD1#8]
  | .set2D => [0xCB#8, 0xD2#8]
  | .set2E => [0xCB#8, 0xD3#8]
  | .set2H => [0xCB#8, 0xD4#8]
  | .set2L => [0xCB#8, 0xD5#8]
  | .set2IndHl => [0xCB#8, 0xD6#8]
  | .set2A => [0xCB#8, 0xD7#8]
  | .set3B => [0xCB#8, 0xD8#8]
  | .set3C => [0xCB#8, 0xD9#8]
  | .set3D => [0xCB#8, 0xDA#8]
  | .set3E => [0xCB#8, 0xDB#8]
  | .set3H => [0xCB#8, 0xDC#8]
  | .set3L => [0xCB#8, 0xDD#8]
  | .set3IndHl => [0xCB#8, 0xDE#8]
  | .set3A => [0xCB#8, 0xDF#8]
  | .set4B => [0xCB#8, 0xE0#8]
  | .set4C => [0xCB#8, 0xE1#8]
  | .set4D => [0xCB#8, 0xE2#8]
  | .set4E => [0xCB#8, 0xE3#8]
  | .set4H => [0xCB#8, 0xE4#8]
  | .set4L => [0xCB#8, 0xE5#8]
  | .set4IndHl => [0xCB#8, 0xE6#8]
  | .set4A => [0xCB#8, 0xE7#8]
  | .set5B => [0xCB#8, 0xE8#8]
  | .set5C => [0xCB#8, 0xE9#8]
  | .set5D => [0xCB#8, 0xEA#8]
  | .set5E => [0xCB#8, 0xEB#8]
  | .set5H => [0xCB#8, 0xEC#8]
  | .set5L => [0xCB#8, 0xED#8]
  | .set5IndHl => [0xCB#8, 0xEE#8]
  | .set5A => [0xCB#8, 0xEF#8]
  | .set6B => [0xCB#8, 0xF0#8]
  | .set6C => [0xCB#8, 0xF1#8]
  | .set6D => [0xCB#8, 0xF2#8]
  | .set6E => [0xCB#8, 0xF3#8]
  | .set6H => [0xCB#8, 0xF4#8]
  | .set6L => [0xCB#8, 0xF5#8]
  | .set6IndHl => [0xCB#8, 0xF6#8]
  | .set6A => [0xCB#8, 0xF7#8]
  | .set7B => [0xCB#8, 0xF8#8]
  | .set7C => [0xCB#8, 0xF9#8]
  | .set7D => [0xCB#8, 0xFA#8]
  | .set7E => [0xCB#8, 0xFB#8]
  | .set7H => [0xCB#8, 0xFC#8]
  | .set7L => [0xCB#8, 0xFD#8]
  | .set7IndHl => [0xCB#8, 0xFE#8]
  | .set7A => [0xCB#8, 0xFF#8]

/-- The length of an instruction in bytes (30_encoding.md R154). -/
def Instr.length (i : Instr) : Nat := (encode i).length

/-- The first three bytes of an instruction given as a word of spec/opcode_table.json, all bytes above `nbits` 0. The table
numbers a primary row's byte as bits 7:0, and a secondary row as 0xCBxx, its FIRST byte (the prefix) in bits 15:8; any
other word has its first byte in bits 7:0 (log 6, DESIGN CHOICE, safe). -/
def tableBytes (nbits w : Nat) : Byte × Byte × Byte :=
  let v := w % 2 ^ nbits
  if 8 < nbits ∧ nbits ≤ 16 ∧ v / 0x100 = 0xCB then (0xCB#8, BitVec.ofNat 8 v, 0x00#8)
  else (BitVec.ofNat 8 v, BitVec.ofNat 8 (v / 0x100), BitVec.ofNat 8 (v / 0x10000))

/-- The instruction the decoder reads from a word of spec/opcode_table.json. -/
def decodeTableWord (nbits w : Nat) : Option Instr :=
  match decode [(tableBytes nbits w).1, (tableBytes nbits w).2.1, (tableBytes nbits w).2.2] with
  | .ok r => some r.1
  | .error _ => none

end Sys2Proof
end

