-- ==== Sys2Proof/Machine/Fetch.lean ====
section
/-! DEFINITION. Fetching an instruction's bytes through the bus (30_encoding.md R140, R141), and placing one where the
next fetch finds it. -/

namespace Sys2Proof.Machine

/-- The address of the byte after the opcode byte: PC itself while a HALT bug is pending (30_encoding.md R140). -/
def operandPc (s : State) : Word := if s.haltBug then s.pc else s.pc + 1#16

/-- The instruction the next CPU step runs. Three bytes are read; reads have no effect, so a byte the instruction does not
have changes nothing (20_memory.md R72, R133; log 17, DESIGN CHOICE, safe). -/
def fetchInstr (s : State) : Instr :=
  decodeBytes (readByte s s.pc) (readByte s (operandPc s)) (readByte s (operandPc s + 1#16))

/-- Put byte `v` into the plain cell behind ROM or work RAM address `a`; other addresses are left alone. -/
def place (a : Word) (v : Byte) (s : State) : State :=
  match regionOf a with
  | .rom => { s with cfg := { s.cfg with rom := Memory.write s.cfg.rom (romOffset s.cart s.cfg a) v } }
  | .wramFixed => { s with wram := s.wram.write (a.toNat - 0xC000) v }
  | .wramBank => { s with wram := s.wram.write (wramIndex s.cfg.wramBanks s.svbk a) v }
  | _ => s

/-- Both ends of the three bytes at `a` lie in ROM, or both in work RAM. -/
def placeable (a : Word) : Bool :=
  decide (a.toNat ≤ 0x7FFD) || (decide (0xC000 ≤ a.toNat) && decide (a.toNat ≤ 0xDFFD))

/-- Ready to fetch: not faulted, not halted, no HALT bug pending, and PC where three bytes can be placed (work RAM if it
points elsewhere; log 5, DESIGN CHOICE, safe). -/
def readyToFetch (s : State) : State :=
  { s with
    fault := none
    halted := false
    haltBug := false
    pc := if placeable s.pc then s.pc else 0xC000#16 }

/-- Three bytes placed at PC. -/
def placeAtPc (b : Byte × Byte × Byte) (s : State) : State :=
  place (s.pc + 2#16) b.2.2 (place (s.pc + 1#16) b.2.1 (place s.pc b.1 s))

end Sys2Proof.Machine
end

