-- ==== Sys2Proof/Machine/Step.lean ====
section
/-! DEFINITION. One machine step (60_exceptions.md R380, R381), and an instruction placed where it is fetched. -/

namespace Sys2Proof.Machine

/-- `MachineStep()`. In the fault state there is no step: the recorded pair is surfaced (60_exceptions.md R381). A halted
CPU makes a phantom step. Otherwise the instruction at PC runs, and unless it raised `UnimplementedOpcode` the timer
tick, the notification and the interrupt step follow. -/
def step (s : State) : Host.Outcome State Fault Refusal :=
  match s.fault with
  | some (op, pc) => .fault (.unimplementedOpcode op pc)
  | none =>
    if s.halted then .next (afterCpuStep (phantomStep s))
    else
      match exec (fetchInstr s) s with
      | .next t => .next (if t.fault.isSome then t else afterCpuStep t)
      | .fault r => .fault r
      | .refused r => .refused r

/-- `s` with the instruction whose table word is `w` placed where `step` fetches its next instruction (log 5, DESIGN CHOICE, safe). -/
def State.withFetchWord (s : State) (nbits w : Nat) : State := placeAtPc (tableBytes nbits w) (readyToFetch s)

end Sys2Proof.Machine
end

