-- ==== Sys2Proof/Machine/Load.lean ====
section
/-! DEFINITION. Session construction: the cartridge header, the load-time errors and the initial state
(20_memory.md R110, R111; 60_exceptions.md R341; 70_reset_and_hazards.md R400, R401). -/

namespace Sys2Proof.Machine

/-- `CART_VARIANT` from the type byte `ROM[0x0147]` (20_memory.md R110). -/
def variantOf (t : Byte) : Option CartVariant :=
  if t.toNat = 0x00 then some .romOnly
  else if 0x01 ≤ t.toNat ∧ t.toNat ≤ 0x03 then some .mbc1
  else if 0x0F ≤ t.toNat ∧ t.toNat ≤ 0x13 then some .mbc3
  else if 0x19 ≤ t.toNat ∧ t.toNat ≤ 0x1E then some .mbc5
  else none

/-- `CART_RAM_SIZE` from the header byte `ROM[0x0149]`; informative (20_memory.md R111). -/
def cramSizeOf (b : Byte) : Option CartRamSize :=
  match b.toNat with
  | 0x00 => some .none
  | 0x02 => some .kib8
  | 0x03 => some .kib32
  | 0x04 => some .kib128
  | 0x05 => some .kib64
  | _ => none

/-- Why no machine exists for a configuration (60_exceptions.md R341, 70_reset_and_hazards.md R401). -/
inductive LoadError where
  /-- The image is shorter than 0x0150 bytes. -/
  | malformedRom
  /-- The type byte names no variant. -/
  | unsupportedCartridgeType (typeByte : Byte)
  /-- The supplied variant is not the header's (90_conflicts.md C9). -/
  | variantMismatch
  /-- The length is below 0x8000 or no multiple of 0x4000 (00_scope.md R8). -/
  | lengthNotAdmitted
  deriving DecidableEq, Repr

/-- Construction from an image of `romLen` bytes and the parameters, in the order of 70_reset_and_hazards.md R401 (log 21, DESIGN CHOICE, safe,
DESIGN CHOICE, safe).
`p.cfg.nbanks` is replaced by `romLen / 0x4000`. -/
def construct (romLen : Nat) (p : Params) : Except LoadError State :=
  if romLen < 0x0150 then .error .malformedRom
  else
    match variantOf (Memory.read p.cfg.rom 0x0147) with
    | none => .error (.unsupportedCartridgeType (Memory.read p.cfg.rom 0x0147))
    | some v =>
      if v ≠ p.variant then .error .variantMismatch
      else if romLen < 0x8000 ∨ romLen % 0x4000 ≠ 0 then .error .lengthNotAdmitted
      else .ok (State.init { p with cfg := { p.cfg with nbanks := romLen / 0x4000 } })

/-- The store that lists a raw image, its first byte at index `k`. -/
def Memory.ofBytes : Nat → List Byte → Memory
  | _, [] => []
  | k, b :: bs => Memory.cons k b (Memory.ofBytes (k + 1) bs)

/-- Construction from a raw image (60_exceptions.md R384 point 1). -/
def constructFromImage (image : List Byte) (p : Params) : Except LoadError State :=
  construct image.length { p with cfg := { p.cfg with rom := Memory.ofBytes 0 image } }

end Sys2Proof.Machine
end

