-- ==== Sys2Proof/Safety.lean ====
section
/-! DEFINITION. The terms the statements use: the encoding of an instruction and of its operand fields, the instructions by family, the
state after an instruction's fetches, what each instruction may write, and the invariant of the machine. Nothing here is
used by the machine. -/

namespace Sys2Proof

open Sys2Proof.Machine

/-- The `r8` field of a register (30_encoding.md R144). -/
def Reg8.code : Reg8 → BitVec 3
  | .b => 0
  | .c => 1
  | .d => 2
  | .e => 3
  | .h => 4
  | .l => 5
  | .a => 7

/-- The `r16` field (30_encoding.md R145). -/
def Reg16.code : Reg16 → BitVec 2
  | .bc => 0
  | .de => 1
  | .hl => 2
  | .sp => 3

/-- The `r16stk` field (30_encoding.md R145). -/
def Reg16Stk.code : Reg16Stk → BitVec 2
  | .bc => 0
  | .de => 1
  | .hl => 2
  | .af => 3

/-- The condition field (30_encoding.md R146). -/
def Cond.code : Cond → BitVec 2
  | .nz => 0
  | .z => 1
  | .nc => 2
  | .c => 3

/-- The ALU operation field (30_encoding.md R147). -/
def AluOp.code : AluOp → BitVec 3
  | .add => 0
  | .adc => 1
  | .sub => 2
  | .sbc => 3
  | .and => 4
  | .xor => 5
  | .or => 6
  | .cp => 7

/-- The rotate and shift operation field (30_encoding.md R147). -/
def RotOp.code : RotOp → BitVec 3
  | .rlc => 0
  | .rrc => 1
  | .rl => 2
  | .rr => 3
  | .sla => 4
  | .sra => 5
  | .swap => 6
  | .srl => 7

/-- First byte `op` selects an instruction of `len` bytes, namely `i` of the two bytes that follow in the stream
(30_encoding.md R142, R154). -/
def Encoded (op : Byte) (len : Nat) (i : Byte → Byte → Instr) : Prop :=
  lengthOf op = len ∧ ∀ b1 b2 : Byte, decodeBytes op b1 b2 = i b1 b2

/-- The prefix 0xCB and second byte `op2` select the two-byte instruction `i` (30_encoding.md R150, R154). -/
def EncodedCb (op2 : Byte) (i : Instr) : Prop :=
  lengthOf 0xCB#8 = 2 ∧ ∀ b2 : Byte, decodeBytes 0xCB#8 op2 b2 = i

/-- The state after a CPU step of an instruction of `len` bytes and cost `cost` whose Operation does nothing: PC has moved
past the instruction (one byte less while a HALT bug was pending), the enable latch has been consumed into IME, the
HALT-bug latch is clear (30_encoding.md R140, R141). -/
def retired (len cost : Nat) (s : State) : State :=
  { s with
    pc := s.pc + BitVec.ofNat 16 (if s.haltBug then len - 1 else len)
    ime := s.ime || s.imePending
    imePending := false
    haltBug := false
    cost := cost }

/-- The flags of the addition family on `a`, `b` and carry-in `c` (42_alu8.md R220). -/
def sumFlags (a b : Byte) (c : Bool) : Flags :=
  { z := a + b + (BitVec.ofBool c).setWidth 8 == 0#8
    n := false
    hf := decide (0xF < a.toNat % 16 + b.toNat % 16 + c.toNat)
    cf := decide (0xFF < a.toNat + b.toNat + c.toNat) }

/-- The flags of the subtraction family on `a`, `b` and borrow-in `c` (42_alu8.md R220). -/
def diffFlags (a b : Byte) (c : Bool) : Flags :=
  { z := a - b - (BitVec.ofBool c).setWidth 8 == 0#8
    n := true
    hf := decide (a.toNat % 16 < b.toNat % 16 + c.toNat)
    cf := decide (a.toNat < b.toNat + c.toNat) }


/-- LD r8,r8 (40_load8.md R170). -/
def Fam.ldRR : Reg8 → Reg8 → Instr
  | .b, .b => .ldBB
  | .b, .c => .ldBC
  | .b, .d => .ldBD
  | .b, .e => .ldBE
  | .b, .h => .ldBH
  | .b, .l => .ldBL
  | .b, .a => .ldBA
  | .c, .b => .ldCB
  | .c, .c => .ldCC
  | .c, .d => .ldCD
  | .c, .e => .ldCE
  | .c, .h => .ldCH
  | .c, .l => .ldCL
  | .c, .a => .ldCA
  | .d, .b => .ldDB
  | .d, .c => .ldDC
  | .d, .d => .ldDD
  | .d, .e => .ldDE
  | .d, .h => .ldDH
  | .d, .l => .ldDL
  | .d, .a => .ldDA
  | .e, .b => .ldEB
  | .e, .c => .ldEC
  | .e, .d => .ldED
  | .e, .e => .ldEE
  | .e, .h => .ldEH
  | .e, .l => .ldEL
  | .e, .a => .ldEA
  | .h, .b => .ldHB
  | .h, .c => .ldHC
  | .h, .d => .ldHD
  | .h, .e => .ldHE
  | .h, .h => .ldHH
  | .h, .l => .ldHL
  | .h, .a => .ldHA
  | .l, .b => .ldLB
  | .l, .c => .ldLC
  | .l, .d => .ldLD
  | .l, .e => .ldLE
  | .l, .h => .ldLH
  | .l, .l => .ldLL
  | .l, .a => .ldLA
  | .a, .b => .ldAB
  | .a, .c => .ldAC
  | .a, .d => .ldAD
  | .a, .e => .ldAE
  | .a, .h => .ldAH
  | .a, .l => .ldAL
  | .a, .a => .ldAA

/-- LD r8,d8 (40_load8.md R171). -/
def Fam.ldRD8 : Reg8 → Byte → Instr
  | .b, v => .ldBD8 v
  | .c, v => .ldCD8 v
  | .d, v => .ldDD8 v
  | .e, v => .ldED8 v
  | .h, v => .ldHD8 v
  | .l, v => .ldLD8 v
  | .a, v => .ldAD8 v

/-- LD r8,(HL) (40_load8.md R172). -/
def Fam.ldRHl : Reg8 → Instr
  | .b => .ldBIndHl
  | .c => .ldCIndHl
  | .d => .ldDIndHl
  | .e => .ldEIndHl
  | .h => .ldHIndHl
  | .l => .ldLIndHl
  | .a => .ldAIndHl

/-- LD (HL),r8 (40_load8.md R173). -/
def Fam.ldHlR : Reg8 → Instr
  | .b => .ldIndHlB
  | .c => .ldIndHlC
  | .d => .ldIndHlD
  | .e => .ldIndHlE
  | .h => .ldIndHlH
  | .l => .ldIndHlL
  | .a => .ldIndHlA

/-- LD r16,d16 (41_load16_stack.md R200). -/
def Fam.ldR16D16 : Reg16 → Word → Instr
  | .bc, v => .ldBcD16 v
  | .de, v => .ldDeD16 v
  | .hl, v => .ldHlD16 v
  | .sp, v => .ldSpD16 v

/-- PUSH r16 (41_load16_stack.md R204). -/
def Fam.push : Reg16Stk → Instr
  | .bc => .pushBc
  | .de => .pushDe
  | .hl => .pushHl
  | .af => .pushAf

/-- POP r16 and POP AF (41_load16_stack.md R207, R208). -/
def Fam.pop : Reg16Stk → Instr
  | .bc => .popBc
  | .de => .popDe
  | .hl => .popHl
  | .af => .popAf

/-- An ALU operation on A and a register (42_alu8.md R221, R224, R227, R230, R233, R236, R239, R242). -/
def Fam.aluR : AluOp → Reg8 → Instr
  | .add, .b => .addAB
  | .add, .c => .addAC
  | .add, .d => .addAD
  | .add, .e => .addAE
  | .add, .h => .addAH
  | .add, .l => .addAL
  | .add, .a => .addAA
  | .adc, .b => .adcAB
  | .adc, .c => .adcAC
  | .adc, .d => .adcAD
  | .adc, .e => .adcAE
  | .adc, .h => .adcAH
  | .adc, .l => .adcAL
  | .adc, .a => .adcAA
  | .sub, .b => .subAB
  | .sub, .c => .subAC
  | .sub, .d => .subAD
  | .sub, .e => .subAE
  | .sub, .h => .subAH
  | .sub, .l => .subAL
  | .sub, .a => .subAA
  | .sbc, .b => .sbcAB
  | .sbc, .c => .sbcAC
  | .sbc, .d => .sbcAD
  | .sbc, .e => .sbcAE
  | .sbc, .h => .sbcAH
  | .sbc, .l => .sbcAL
  | .sbc, .a => .sbcAA
  | .and, .b => .andAB
  | .and, .c => .andAC
  | .and, .d => .andAD
  | .and, .e => .andAE
  | .and, .h => .andAH
  | .and, .l => .andAL
  | .and, .a => .andAA
  | .xor, .b => .xorAB
  | .xor, .c => .xorAC
  | .xor, .d => .xorAD
  | .xor, .e => .xorAE
  | .xor, .h => .xorAH
  | .xor, .l => .xorAL
  | .xor, .a => .xorAA
  | .or, .b => .orAB
  | .or, .c => .orAC
  | .or, .d => .orAD
  | .or, .e => .orAE
  | .or, .h => .orAH
  | .or, .l => .orAL
  | .or, .a => .orAA
  | .cp, .b => .cpAB
  | .cp, .c => .cpAC
  | .cp, .d => .cpAD
  | .cp, .e => .cpAE
  | .cp, .h => .cpAH
  | .cp, .l => .cpAL
  | .cp, .a => .cpAA

/-- An ALU operation on A and the byte at HL (42_alu8.md R222, R225, R228, R231, R234, R237, R240, R243). -/
def Fam.aluHl : AluOp → Instr
  | .add => .addAIndHl
  | .adc => .adcAIndHl
  | .sub => .subAIndHl
  | .sbc => .sbcAIndHl
  | .and => .andAIndHl
  | .xor => .xorAIndHl
  | .or => .orAIndHl
  | .cp => .cpAIndHl

/-- An ALU operation on A and an immediate (42_alu8.md R223, R226, R229, R232, R235, R238, R241, R244). -/
def Fam.aluD8 : AluOp → Byte → Instr
  | .add, v => .addAD8 v
  | .adc, v => .adcAD8 v
  | .sub, v => .subAD8 v
  | .sbc, v => .sbcAD8 v
  | .and, v => .andAD8 v
  | .xor, v => .xorAD8 v
  | .or, v => .orAD8 v
  | .cp, v => .cpAD8 v

/-- INC r8 (42_alu8.md R245). -/
def Fam.incR : Reg8 → Instr
  | .b => .incB
  | .c => .incC
  | .d => .incD
  | .e => .incE
  | .h => .incH
  | .l => .incL
  | .a => .incA

/-- DEC r8 (42_alu8.md R247). -/
def Fam.decR : Reg8 → Instr
  | .b => .decB
  | .c => .decC
  | .d => .decD
  | .e => .decE
  | .h => .decH
  | .l => .decL
  | .a => .decA

/-- ADD HL,r16 (43_alu16.md R260). -/
def Fam.addHl : Reg16 → Instr
  | .bc => .addHlBc
  | .de => .addHlDe
  | .hl => .addHlHl
  | .sp => .addHlSp

/-- INC r16 (43_alu16.md R261). -/
def Fam.incR16 : Reg16 → Instr
  | .bc => .incBc
  | .de => .incDe
  | .hl => .incHl
  | .sp => .incSp

/-- DEC r16 (43_alu16.md R262). -/
def Fam.decR16 : Reg16 → Instr
  | .bc => .decBc
  | .de => .decDe
  | .hl => .decHl
  | .sp => .decSp

/-- A rotate or shift of a register (44_rotate_shift_bit.md R275 to R289, odd rules). -/
def Fam.rotR : RotOp → Reg8 → Instr
  | .rlc, .b => .rlcB
  | .rlc, .c => .rlcC
  | .rlc, .d => .rlcD
  | .rlc, .e => .rlcE
  | .rlc, .h => .rlcH
  | .rlc, .l => .rlcL
  | .rlc, .a => .rlcA
  | .rrc, .b => .rrcB
  | .rrc, .c => .rrcC
  | .rrc, .d => .rrcD
  | .rrc, .e => .rrcE
  | .rrc, .h => .rrcH
  | .rrc, .l => .rrcL
  | .rrc, .a => .rrcA
  | .rl, .b => .rlB
  | .rl, .c => .rlC
  | .rl, .d => .rlD
  | .rl, .e => .rlE
  | .rl, .h => .rlH
  | .rl, .l => .rlL
  | .rl, .a => .rlA
  | .rr, .b => .rrB
  | .rr, .c => .rrC
  | .rr, .d => .rrD
  | .rr, .e => .rrE
  | .rr, .h => .rrH
  | .rr, .l => .rrL
  | .rr, .a => .rrA
  | .sla, .b => .slaB
  | .sla, .c => .slaC
  | .sla, .d => .slaD
  | .sla, .e => .slaE
  | .sla, .h => .slaH
  | .sla, .l => .slaL
  | .sla, .a => .slaA
  | .sra, .b => .sraB
  | .sra, .c => .sraC
  | .sra, .d => .sraD
  | .sra, .e => .sraE
  | .sra, .h => .sraH
  | .sra, .l => .sraL
  | .sra, .a => .sraA
  | .swap, .b => .swapB
  | .swap, .c => .swapC
  | .swap, .d => .swapD
  | .swap, .e => .swapE
  | .swap, .h => .swapH
  | .swap, .l => .swapL
  | .swap, .a => .swapA
  | .srl, .b => .srlB
  | .srl, .c => .srlC
  | .srl, .d => .srlD
  | .srl, .e => .srlE
  | .srl, .h => .srlH
  | .srl, .l => .srlL
  | .srl, .a => .srlA

/-- A rotate or shift of the byte at HL (44_rotate_shift_bit.md R276 to R290, even rules). -/
def Fam.rotHl : RotOp → Instr
  | .rlc => .rlcIndHl
  | .rrc => .rrcIndHl
  | .rl => .rlIndHl
  | .rr => .rrIndHl
  | .sla => .slaIndHl
  | .sra => .sraIndHl
  | .swap => .swapIndHl
  | .srl => .srlIndHl

/-- BIT b,r8, `b` the bit number (44_rotate_shift_bit.md R291). -/
def Fam.bitR (b : BitVec 3) (t : Reg8) : Instr :=
  match b.toNat, t with
  | 0, .b => .bit0B
  | 0, .c => .bit0C
  | 0, .d => .bit0D
  | 0, .e => .bit0E
  | 0, .h => .bit0H
  | 0, .l => .bit0L
  | 0, .a => .bit0A
  | 1, .b => .bit1B
  | 1, .c => .bit1C
  | 1, .d => .bit1D
  | 1, .e => .bit1E
  | 1, .h => .bit1H
  | 1, .l => .bit1L
  | 1, .a => .bit1A
  | 2, .b => .bit2B
  | 2, .c => .bit2C
  | 2, .d => .bit2D
  | 2, .e => .bit2E
  | 2, .h => .bit2H
  | 2, .l => .bit2L
  | 2, .a => .bit2A
  | 3, .b => .bit3B
  | 3, .c => .bit3C
  | 3, .d => .bit3D
  | 3, .e => .bit3E
  | 3, .h => .bit3H
  | 3, .l => .bit3L
  | 3, .a => .bit3A
  | 4, .b => .bit4B
  | 4, .c => .bit4C
  | 4, .d => .bit4D
  | 4, .e => .bit4E
  | 4, .h => .bit4H
  | 4, .l => .bit4L
  | 4, .a => .bit4A
  | 5, .b => .bit5B
  | 5, .c => .bit5C
  | 5, .d => .bit5D
  | 5, .e => .bit5E
  | 5, .h => .bit5H
  | 5, .l => .bit5L
  | 5, .a => .bit5A
  | 6, .b => .bit6B
  | 6, .c => .bit6C
  | 6, .d => .bit6D
  | 6, .e => .bit6E
  | 6, .h => .bit6H
  | 6, .l => .bit6L
  | 6, .a => .bit6A
  | _, .b => .bit7B
  | _, .c => .bit7C
  | _, .d => .bit7D
  | _, .e => .bit7E
  | _, .h => .bit7H
  | _, .l => .bit7L
  | _, .a => .bit7A

/-- BIT b,(HL), `b` the bit number (44_rotate_shift_bit.md R292). -/
def Fam.bitHl (b : BitVec 3) : Instr :=
  match b.toNat with
  | 0 => .bit0IndHl
  | 1 => .bit1IndHl
  | 2 => .bit2IndHl
  | 3 => .bit3IndHl
  | 4 => .bit4IndHl
  | 5 => .bit5IndHl
  | 6 => .bit6IndHl
  | _ => .bit7IndHl

/-- RES b,r8, `b` the bit number (44_rotate_shift_bit.md R293). -/
def Fam.resR (b : BitVec 3) (t : Reg8) : Instr :=
  match b.toNat, t with
  | 0, .b => .res0B
  | 0, .c => .res0C
  | 0, .d => .res0D
  | 0, .e => .res0E
  | 0, .h => .res0H
  | 0, .l => .res0L
  | 0, .a => .res0A
  | 1, .b => .res1B
  | 1, .c => .res1C
  | 1, .d => .res1D
  | 1, .e => .res1E
  | 1, .h => .res1H
  | 1, .l => .res1L
  | 1, .a => .res1A
  | 2, .b => .res2B
  | 2, .c => .res2C
  | 2, .d => .res2D
  | 2, .e => .res2E
  | 2, .h => .res2H
  | 2, .l => .res2L
  | 2, .a => .res2A
  | 3, .b => .res3B
  | 3, .c => .res3C
  | 3, .d => .res3D
  | 3, .e => .res3E
  | 3, .h => .res3H
  | 3, .l => .res3L
  | 3, .a => .res3A
  | 4, .b => .res4B
  | 4, .c => .res4C
  | 4, .d => .res4D
  | 4, .e => .res4E
  | 4, .h => .res4H
  | 4, .l => .res4L
  | 4, .a => .res4A
  | 5, .b => .res5B
  | 5, .c => .res5C
  | 5, .d => .res5D
  | 5, .e => .res5E
  | 5, .h => .res5H
  | 5, .l => .res5L
  | 5, .a => .res5A
  | 6, .b => .res6B
  | 6, .c => .res6C
  | 6, .d => .res6D
  | 6, .e => .res6E
  | 6, .h => .res6H
  | 6, .l => .res6L
  | 6, .a => .res6A
  | _, .b => .res7B
  | _, .c => .res7C
  | _, .d => .res7D
  | _, .e => .res7E
  | _, .h => .res7H
  | _, .l => .res7L
  | _, .a => .res7A

/-- RES b,(HL), `b` the bit number (44_rotate_shift_bit.md R294). -/
def Fam.resHl (b : BitVec 3) : Instr :=
  match b.toNat with
  | 0 => .res0IndHl
  | 1 => .res1IndHl
  | 2 => .res2IndHl
  | 3 => .res3IndHl
  | 4 => .res4IndHl
  | 5 => .res5IndHl
  | 6 => .res6IndHl
  | _ => .res7IndHl

/-- SET b,r8, `b` the bit number (44_rotate_shift_bit.md R295). -/
def Fam.setR (b : BitVec 3) (t : Reg8) : Instr :=
  match b.toNat, t with
  | 0, .b => .set0B
  | 0, .c => .set0C
  | 0, .d => .set0D
  | 0, .e => .set0E
  | 0, .h => .set0H
  | 0, .l => .set0L
  | 0, .a => .set0A
  | 1, .b => .set1B
  | 1, .c => .set1C
  | 1, .d => .set1D
  | 1, .e => .set1E
  | 1, .h => .set1H
  | 1, .l => .set1L
  | 1, .a => .set1A
  | 2, .b => .set2B
  | 2, .c => .set2C
  | 2, .d => .set2D
  | 2, .e => .set2E
  | 2, .h => .set2H
  | 2, .l => .set2L
  | 2, .a => .set2A
  | 3, .b => .set3B
  | 3, .c => .set3C
  | 3, .d => .set3D
  | 3, .e => .set3E
  | 3, .h => .set3H
  | 3, .l => .set3L
  | 3, .a => .set3A
  | 4, .b => .set4B
  | 4, .c => .set4C
  | 4, .d => .set4D
  | 4, .e => .set4E
  | 4, .h => .set4H
  | 4, .l => .set4L
  | 4, .a => .set4A
  | 5, .b => .set5B
  | 5, .c => .set5C
  | 5, .d => .set5D
  | 5, .e => .set5E
  | 5, .h => .set5H
  | 5, .l => .set5L
  | 5, .a => .set5A
  | 6, .b => .set6B
  | 6, .c => .set6C
  | 6, .d => .set6D
  | 6, .e => .set6E
  | 6, .h => .set6H
  | 6, .l => .set6L
  | 6, .a => .set6A
  | _, .b => .set7B
  | _, .c => .set7C
  | _, .d => .set7D
  | _, .e => .set7E
  | _, .h => .set7H
  | _, .l => .set7L
  | _, .a => .set7A

/-- SET b,(HL), `b` the bit number (44_rotate_shift_bit.md R296). -/
def Fam.setHl (b : BitVec 3) : Instr :=
  match b.toNat with
  | 0 => .set0IndHl
  | 1 => .set1IndHl
  | 2 => .set2IndHl
  | 3 => .set3IndHl
  | 4 => .set4IndHl
  | 5 => .set5IndHl
  | 6 => .set6IndHl
  | _ => .set7IndHl

/-- JP cc,a16 (45_control_flow.md R301). -/
def Fam.jpCc : Cond → Word → Instr
  | .nz, a => .jpNzA16 a
  | .z, a => .jpZA16 a
  | .nc, a => .jpNcA16 a
  | .c, a => .jpCA16 a

/-- JR cc,e8 (45_control_flow.md R304). -/
def Fam.jrCc : Cond → Byte → Instr
  | .nz, e => .jrNzE8 e
  | .z, e => .jrZE8 e
  | .nc, e => .jrNcE8 e
  | .c, e => .jrCE8 e

/-- CALL cc,a16 (45_control_flow.md R306). -/
def Fam.callCc : Cond → Word → Instr
  | .nz, a => .callNzA16 a
  | .z, a => .callZA16 a
  | .nc, a => .callNcA16 a
  | .c, a => .callCA16 a

/-- RET cc (45_control_flow.md R308). -/
def Fam.retCc : Cond → Instr
  | .nz => .retNz
  | .z => .retZ
  | .nc => .retNc
  | .c => .retC

/-- RST t, target `8 * t` (45_control_flow.md R310). -/
def Fam.rst (t : BitVec 3) : Instr :=
  match t.toNat with
  | 0 => .rst00
  | 1 => .rst08
  | 2 => .rst10
  | 3 => .rst18
  | 4 => .rst20
  | 5 => .rst28
  | 6 => .rst30
  | _ => .rst38

/-- The twelve opcode bytes without a handler, their lengths and their instructions (30_encoding.md R152, 46_cpu_control.md R324, R328). -/
def unimplemented : List (Byte × Nat × Instr) :=
  [(0x10#8, 2, .stop),
   (0xD3#8, 1, .illegalD3),
   (0xDB#8, 1, .illegalDB),
   (0xDD#8, 1, .illegalDD),
   (0xE3#8, 1, .illegalE3),
   (0xE4#8, 1, .illegalE4),
   (0xEB#8, 1, .illegalEB),
   (0xEC#8, 1, .illegalEC),
   (0xED#8, 1, .illegalED),
   (0xF4#8, 1, .illegalF4),
   (0xFC#8, 1, .illegalFC),
   (0xFD#8, 1, .illegalFD)]

/-- The general registers an instruction may write, by its rule in 40_load8.md to 45_control_flow.md; `PC`, `SP` and the flags are
not among them. -/
def destRegs : Instr → List Reg8
  | .rlca | .ldAIndBc | .rrca | .rla | .ldAIndDe | .rra | .daa | .cpl | .incA | .decA | .ldAD8 _ | .ldAB | .ldAC
    | .ldAD | .ldAE | .ldAH | .ldAL | .ldAIndHl | .ldAA | .addAB | .addAC | .addAD | .addAE | .addAH | .addAL
    | .addAIndHl | .addAA | .adcAB | .adcAC | .adcAD | .adcAE | .adcAH | .adcAL | .adcAIndHl | .adcAA | .subAB
    | .subAC | .subAD | .subAE | .subAH | .subAL | .subAIndHl | .subAA | .sbcAB | .sbcAC | .sbcAD | .sbcAE | .sbcAH
    | .sbcAL | .sbcAIndHl | .sbcAA | .andAB | .andAC | .andAD | .andAE | .andAH | .andAL | .andAIndHl | .andAA
    | .xorAB | .xorAC | .xorAD | .xorAE | .xorAH | .xorAL | .xorAIndHl | .xorAA | .orAB | .orAC | .orAD | .orAE
    | .orAH | .orAL | .orAIndHl | .orAA | .addAD8 _ | .adcAD8 _ | .subAD8 _ | .sbcAD8 _ | .andAD8 _ | .xorAD8 _
    | .ldhAIndA8 _ | .popAf | .ldhAIndC | .orAD8 _ | .ldAIndA16 _ | .rlcA | .rrcA | .rlA | .rrA | .slaA | .sraA
    | .swapA | .srlA | .res0A | .res1A | .res2A | .res3A | .res4A | .res5A | .res6A | .res7A | .set0A | .set1A
    | .set2A | .set3A | .set4A | .set5A | .set6A | .set7A => [.a]
  | .incB | .decB | .ldBD8 _ | .ldBB | .ldBC | .ldBD | .ldBE | .ldBH | .ldBL | .ldBIndHl | .ldBA | .rlcB | .rrcB
    | .rlB | .rrB | .slaB | .sraB | .swapB | .srlB | .res0B | .res1B | .res2B | .res3B | .res4B | .res5B | .res6B
    | .res7B | .set0B | .set1B | .set2B | .set3B | .set4B | .set5B | .set6B | .set7B => [.b]
  | .incC | .decC | .ldCD8 _ | .ldCB | .ldCC | .ldCD | .ldCE | .ldCH | .ldCL | .ldCIndHl | .ldCA | .rlcC | .rrcC
    | .rlC | .rrC | .slaC | .sraC | .swapC | .srlC | .res0C | .res1C | .res2C | .res3C | .res4C | .res5C | .res6C
    | .res7C | .set0C | .set1C | .set2C | .set3C | .set4C | .set5C | .set6C | .set7C => [.c]
  | .incD | .decD | .ldDD8 _ | .ldDB | .ldDC | .ldDD | .ldDE | .ldDH | .ldDL | .ldDIndHl | .ldDA | .rlcD | .rrcD
    | .rlD | .rrD | .slaD | .sraD | .swapD | .srlD | .res0D | .res1D | .res2D | .res3D | .res4D | .res5D | .res6D
    | .res7D | .set0D | .set1D | .set2D | .set3D | .set4D | .set5D | .set6D | .set7D => [.d]
  | .incE | .decE | .ldED8 _ | .ldEB | .ldEC | .ldED | .ldEE | .ldEH | .ldEL | .ldEIndHl | .ldEA | .rlcE | .rrcE
    | .rlE | .rrE | .slaE | .sraE | .swapE | .srlE | .res0E | .res1E | .res2E | .res3E | .res4E | .res5E | .res6E
    | .res7E | .set0E | .set1E | .set2E | .set3E | .set4E | .set5E | .set6E | .set7E => [.e]
  | .incH | .decH | .ldHD8 _ | .ldHB | .ldHC | .ldHD | .ldHE | .ldHH | .ldHL | .ldHIndHl | .ldHA | .rlcH | .rrcH
    | .rlH | .rrH | .slaH | .sraH | .swapH | .srlH | .res0H | .res1H | .res2H | .res3H | .res4H | .res5H | .res6H
    | .res7H | .set0H | .set1H | .set2H | .set3H | .set4H | .set5H | .set6H | .set7H => [.h]
  | .incL | .decL | .ldLD8 _ | .ldLB | .ldLC | .ldLD | .ldLE | .ldLH | .ldLL | .ldLIndHl | .ldLA | .rlcL | .rrcL
    | .rlL | .rrL | .slaL | .sraL | .swapL | .srlL | .res0L | .res1L | .res2L | .res3L | .res4L | .res5L | .res6L
    | .res7L | .set0L | .set1L | .set2L | .set3L | .set4L | .set5L | .set6L | .set7L => [.l]
  | .ldBcD16 _ | .incBc | .decBc | .popBc => [.b, .c]
  | .ldDeD16 _ | .incDe | .decDe | .popDe => [.d, .e]
  | .addHlBc | .addHlDe | .ldHlD16 _ | .ldIndHlIncA | .incHl | .addHlHl | .decHl | .ldIndHlDecA | .addHlSp | .popHl
    | .ldHlSpE8 _ => [.h, .l]
  | .ldAIndHlInc | .ldAIndHlDec => [.a, .h, .l]
  | .prefixCb op2 => if (op2.extractLsb' 6 2).toNat = 1 then [] else (Machine.reg8OfField (op2.extractLsb' 0 3)).toList
  | _ => []

/-- The instructions that write a flag (10_state.md R25 and the rules it names). -/
def writesFlags : Instr → Bool
  | .incB | .decB | .rlca | .addHlBc | .incC | .decC | .rrca | .incD | .decD | .rla | .addHlDe | .incE | .decE | .rra
    | .incH | .decH | .daa | .addHlHl | .incL | .decL | .cpl | .incIndHl | .decIndHl | .scf | .addHlSp | .incA
    | .decA | .ccf | .addAB | .addAC | .addAD | .addAE | .addAH | .addAL | .addAIndHl | .addAA | .adcAB | .adcAC
    | .adcAD | .adcAE | .adcAH | .adcAL | .adcAIndHl | .adcAA | .subAB | .subAC | .subAD | .subAE | .subAH | .subAL
    | .subAIndHl | .subAA | .sbcAB | .sbcAC | .sbcAD | .sbcAE | .sbcAH | .sbcAL | .sbcAIndHl | .sbcAA | .andAB
    | .andAC | .andAD | .andAE | .andAH | .andAL | .andAIndHl | .andAA | .xorAB | .xorAC | .xorAD | .xorAE | .xorAH
    | .xorAL | .xorAIndHl | .xorAA | .orAB | .orAC | .orAD | .orAE | .orAH | .orAL | .orAIndHl | .orAA | .cpAB
    | .cpAC | .cpAD | .cpAE | .cpAH | .cpAL | .cpAIndHl | .cpAA | .addAD8 _ | .adcAD8 _ | .subAD8 _ | .sbcAD8 _
    | .andAD8 _ | .addSpE8 _ | .xorAD8 _ | .popAf | .orAD8 _ | .ldHlSpE8 _ | .cpAD8 _ | .rlcB | .rlcC | .rlcD | .rlcE
    | .rlcH | .rlcL | .rlcIndHl | .rlcA | .rrcB | .rrcC | .rrcD | .rrcE | .rrcH | .rrcL | .rrcIndHl | .rrcA | .rlB
    | .rlC | .rlD | .rlE | .rlH | .rlL | .rlIndHl | .rlA | .rrB | .rrC | .rrD | .rrE | .rrH | .rrL | .rrIndHl | .rrA
    | .slaB | .slaC | .slaD | .slaE | .slaH | .slaL | .slaIndHl | .slaA | .sraB | .sraC | .sraD | .sraE | .sraH
    | .sraL | .sraIndHl | .sraA | .swapB | .swapC | .swapD | .swapE | .swapH | .swapL | .swapIndHl | .swapA | .srlB
    | .srlC | .srlD | .srlE | .srlH | .srlL | .srlIndHl | .srlA | .bit0B | .bit0C | .bit0D | .bit0E | .bit0H | .bit0L
    | .bit0IndHl | .bit0A | .bit1B | .bit1C | .bit1D | .bit1E | .bit1H | .bit1L | .bit1IndHl | .bit1A | .bit2B
    | .bit2C | .bit2D | .bit2E | .bit2H | .bit2L | .bit2IndHl | .bit2A | .bit3B | .bit3C | .bit3D | .bit3E | .bit3H
    | .bit3L | .bit3IndHl | .bit3A | .bit4B | .bit4C | .bit4D | .bit4E | .bit4H | .bit4L | .bit4IndHl | .bit4A
    | .bit5B | .bit5C | .bit5D | .bit5E | .bit5H | .bit5L | .bit5IndHl | .bit5A | .bit6B | .bit6C | .bit6D | .bit6E
    | .bit6H | .bit6L | .bit6IndHl | .bit6A | .bit7B | .bit7C | .bit7D | .bit7E | .bit7H | .bit7L | .bit7IndHl
    | .bit7A => true
  | .prefixCb op2 => decide ((op2.extractLsb' 6 2).toNat ≤ 1)
  | _ => false

/-- The instructions that write `SP` (10_state.md R27). -/
def writesSp : Instr → Bool
  | .ldSpD16 _ | .incSp | .decSp | .retNz | .popBc | .callNzA16 _ | .pushBc | .rst00 | .retZ | .ret | .callZA16 _
    | .callA16 _ | .rst08 | .retNc | .popDe | .callNcA16 _ | .pushDe | .rst10 | .retC | .reti | .callCA16 _ | .rst18
    | .popHl | .pushHl | .rst20 | .addSpE8 _ | .rst28 | .popAf | .pushAf | .rst30 | .ldSpHl | .rst38 => true
  | _ => false

/-- The control transfers (45_control_flow.md R300 to R310). -/
def transfers : Instr → Bool
  | .jrE8 _ | .jrNzE8 _ | .jrZE8 _ | .jrNcE8 _ | .jrCE8 _ | .retNz | .jpNzA16 _ | .jpA16 _ | .callNzA16 _ | .rst00
    | .retZ | .ret | .jpZA16 _ | .callZA16 _ | .callA16 _ | .rst08 | .retNc | .jpNcA16 _ | .callNcA16 _ | .rst10
    | .retC | .reti | .jpCA16 _ | .callCA16 _ | .rst18 | .rst20 | .jpHl | .rst28 | .rst30 | .rst38 => true
  | _ => false

/-- The instructions whose byte has no handler (30_encoding.md R152). -/
def raises : Instr → Bool
  | .stop | .illegalD3 | .illegalDB | .illegalDD | .illegalE3 | .illegalE4 | .illegalEB | .illegalEC | .illegalED
    | .illegalF4 | .illegalFC | .illegalFD => true
  | _ => false

/-- The addresses an instruction stores to, in the order of its byte writes, computed from the state before it
(20_memory.md R78; the rules of the storing instructions). A push stores at the decremented `SP`. -/
def storedAt (s : State) : Instr → List Word
  | .ldIndHlIncA | .ldIndHlDecA | .incIndHl | .decIndHl | .ldIndHlD8 _ | .ldIndHlB | .ldIndHlC | .ldIndHlD
    | .ldIndHlE | .ldIndHlH | .ldIndHlL | .ldIndHlA | .rlcIndHl | .rrcIndHl | .rlIndHl | .rrIndHl | .slaIndHl
    | .sraIndHl | .swapIndHl | .srlIndHl | .res0IndHl | .res1IndHl | .res2IndHl | .res3IndHl | .res4IndHl
    | .res5IndHl | .res6IndHl | .res7IndHl | .set0IndHl | .set1IndHl | .set2IndHl | .set3IndHl | .set4IndHl
    | .set5IndHl | .set6IndHl | .set7IndHl => [s.regs.h ++ s.regs.l]
  | .ldIndBcA => [s.regs.b ++ s.regs.c]
  | .ldIndDeA => [s.regs.d ++ s.regs.e]
  | .ldIndA16A a => [a]
  | .ldhIndCA => [0xFF#8 ++ s.regs.c]
  | .ldhIndA8A n => [0xFF#8 ++ n]
  | .ldIndA16Sp a => [a, a + 1#16]
  | .pushBc | .rst00 | .callA16 _ | .rst08 | .pushDe | .rst10 | .rst18 | .pushHl | .rst20 | .rst28 | .pushAf | .rst30
    | .rst38 => [s.sp - 2#16, s.sp - 1#16]
  | .callNzA16 _ => if cond .nz s.f then [s.sp - 2#16, s.sp - 1#16] else []
  | .callZA16 _ => if cond .z s.f then [s.sp - 2#16, s.sp - 1#16] else []
  | .callNcA16 _ => if cond .nc s.f then [s.sp - 2#16, s.sp - 1#16] else []
  | .callCA16 _ => if cond .c s.f then [s.sp - 2#16, s.sp - 1#16] else []
  | .prefixCb op2 =>
    if (op2.extractLsb' 0 3).toNat = 6 ∧ (op2.extractLsb' 6 2).toNat ≠ 1 then [s.regs.h ++ s.regs.l] else []
  | _ => []

/-- The MBC3 window at 0xA000 shows one clock byte at every address (20_memory.md R120). -/
def clockSelected (s : State) : Bool :=
  match s.cart with
  | .mbc3 m => m.ramEnable && decide (0x8 ≤ m.ramSel.toNat) && decide (m.ramSel.toNat ≤ 0xC)
  | _ => false

/-- Whether a `write_byte` at `x` may change what `read_byte` gives at `a` (20_memory.md R79): a control write moves the
cartridge windows, DMA fills the object memory, the bank selectors move their windows, a discarded write changes
nothing, and every other write changes its own address alone. -/
def touched (s : State) (x a : Word) : Bool :=
  match regionOf x with
  | .rom => regionOf a == .rom || regionOf a == .cartRam
  | .cartRam => a == x || (clockSelected s && regionOf a == .cartRam)
  | .echo => false
  | .unusable => false
  | .io =>
    a == x ||
      (match ioRegOf (x.toNat - 0xFF00) with
        | .dma => regionOf a == .oam
        | .vbk => regionOf a == .vram
        | .svbk => regionOf a == .wramBank
        | _ => false)
  | _ => a == x

/-- The addresses whose whole byte is storage in state `s` (20_memory.md R79, R81 to R84, R86, R88, R89, R92, R95, R96): video
and work RAM, object memory, high RAM, IE, TIMA, TMA, DMA, the device-owned bytes, and cartridge RAM where it is open. -/
def storage (s : State) (a : Word) : Bool :=
  match regionOf a with
  | .rom | .echo | .unusable => false
  | .cartRam => ramTarget s.cart s.cfg a != .closed
  | .io =>
    match ioRegOf (a.toNat - 0xFF00) with
    | .tima | .tma | .dma | .device _ => true
    | _ => false
  | _ => true

/-- An address where a write stores the byte and has no other effect (20_memory.md R79): video, work, object and high RAM, and
open cartridge RAM. -/
def plainRam (s : State) (a : Word) : Bool :=
  match regionOf a with
  | .vram | .wramFixed | .wramBank | .oam | .hram => true
  | .cartRam =>
    match ramTarget s.cart s.cfg a with
    | .cram _ => true
    | _ => false
  | _ => false

/-- The loop of `TimerTick`, iterated at most `fuel` times (60_exceptions.md R371). -/
def timerLoop : Nat → State → State
  | 0, s => s
  | fuel + 1, s =>
    if s.timer.period ≤ s.timer.acc then
      timerLoop fuel (timaIncrement { s with timer := { s.timer with acc := s.timer.acc - s.timer.period } })
    else s

/-- The result byte of a rotate or shift, `c` the carry before it (44_rotate_shift_bit.md R275 to R289, in their shift notation). -/
def shifted (op : RotOp) (v : Byte) (c : Bool) : Byte :=
  match op with
  | .rlc => v <<< 1 ||| v >>> 7
  | .rrc => v >>> 1 ||| v <<< 7
  | .rl => v <<< 1 ||| (BitVec.ofBool c).setWidth 8
  | .rr => v >>> 1 ||| (BitVec.ofBool c).setWidth 8 <<< 7
  | .sla => v <<< 1
  | .sra => v.sshiftRight 1
  | .swap => v <<< 4 ||| v >>> 4
  | .srl => v >>> 1

/-- The bit a rotate or shift moves into the carry (44_rotate_shift_bit.md R275 to R289). -/
def shiftedOut (op : RotOp) (v : Byte) : Bool :=
  match op with
  | .rlc | .rl | .sla => v.getLsbD 7
  | .rrc | .rr | .sra | .srl => v.getLsbD 0
  | .swap => false

/-- A byte holds two decimal digits (42_alu8.md R249, the BCD property). -/
def isBcd (v : Byte) : Prop := v.toNat / 16 ≤ 9 ∧ v.toNat % 16 ≤ 9

/-- The number two decimal digits stand for. -/
def bcdValue (v : Byte) : Nat := 10 * (v.toNat / 16) + v.toNat % 16

/-- The cartridge's RAM gate is open (20_memory.md R113). -/
def Machine.Cart.gate : Cart → Bool
  | .romOnly => false
  | .mbc1 m => m.ramEnable
  | .mbc3 m => m.ramEnable
  | .mbc5 m => m.ramEnable

/-- The number of bytes of video RAM (10_state.md R44). -/
def Config.vramSize (c : Config) : Nat :=
  match c.vramBanks with
  | .one => 0x2000
  | .two => 0x4000

/-- The number of bytes of work RAM (10_state.md R45). -/
def Config.wramSize (c : Config) : Nat :=
  match c.wramBanks with
  | .two => 0x2000
  | .eight => 0x8000

/-- The bank-select state is one that can be reached: `bank_lo` and MBC3's `rom_bank` are never 0 (10_state.md R47,
20_memory.md R126), and the clock bytes are five. -/
def Machine.Cart.ok : Cart → Bool
  | .romOnly => true
  | .mbc1 m => m.bankLo != 0#5
  | .mbc3 m => m.romBank != 0#7 && m.rtc.wf && Memory.within 5 m.rtc
  | .mbc5 _ => true

/-- `CART_VARIANT` (00_scope.md R9). -/
def Machine.Cart.variant : Cart → CartVariant
  | .romOnly => .romOnly
  | .mbc1 _ => .mbc1
  | .mbc3 _ => .mbc3
  | .mbc5 _ => .mbc5

/-- Every store is in its canonical form and within its size (10_state.md R42, R44 to R47; 00_scope.md R8), and no core-owned
offset of the I/O window is listed among the device-owned bytes. -/
def Machine.State.storesOk (s : State) : Bool :=
  (s.io.wf && Memory.within 0x80 s.io && s.io.all fun c => ioRegOf c.1 == .device c.1) &&
    (s.vram.wf && Memory.within s.cfg.vramSize s.vram) &&
    (s.wram.wf && Memory.within s.cfg.wramSize s.wram) &&
    (s.oam.wf && Memory.within 0xA0 s.oam) &&
    (s.hram.wf && Memory.within 0x7F s.hram) &&
    (s.cram.wf && Memory.within s.cfg.cramSize.bytes s.cram) &&
    (Memory.wf s.cfg.rom && Memory.within (s.cfg.nbanks * 0x4000) s.cfg.rom) &&
    decide (2 ≤ s.cfg.nbanks)

/-- The invariant of the machine: its stores are in form, its bank selectors legal, the timer's accumulator below its
threshold (10_state.md R36), the latches consistent (10_state.md R30, R31; 46_cpu_control.md R323, R326), and a recorded fault names
the frozen PC (60_exceptions.md R340). -/
abbrev Machine.State.Inv (s : State) : Prop :=
  s.storesOk = true ∧
    s.cart.ok = true ∧
    s.timer.acc < s.timer.period ∧
    (s.halted = true → s.imePending = false ∧ s.haltBug = false) ∧
    (s.haltBug = true → s.ime = false ∧ s.imePending = false ∧ s.cfg.haltBug = true) ∧
    s.fault.all (fun q => q.2 == s.pc) = true

end Sys2Proof
end

