-- ==== Sys2Proof/Certificates/Slice0/Obligations.lean ====
section
/-! DEFINITION. The statements for the provers. A docstring names the rules of spec/ a statement formalises. In every result
statement `retired len cost s` is the state after the fetches and latches of a CPU step (30_encoding.md R140, log 17); an
equation for the whole next state is result, frame and completion at once. -/

open Sys2Proof Sys2Proof.Machine

/-! ## Encoding -/

/-- Decoding the encoding of a well-formed instruction gives it back, with whatever follows it (R142, R148, R149, R150, R151). -/
def Obligations.DecodeOfEncode : Prop :=
  ∀ (i : Instr) (rest : List Byte), WellFormed i = true → decode (encode i ++ rest) = .ok (i, rest)

/-- What the decoder reads is well formed, uses up exactly its length, and encodes to the bytes read; the second byte of
STOP is ignored (R142, R154, R324). -/
def Obligations.EncodeOfDecode : Prop :=
  ∀ (bytes : List Byte) (i : Instr) (rest : List Byte), decode bytes = .ok (i, rest) →
    WellFormed i = true ∧ bytes.length = i.length + rest.length ∧ (i ≠ .stop → encode i ++ rest = bytes)

/-- Words written out from the encodings of the rules decode to their instructions (R200, R236, R287, R304, R150, R321,
R328, R201, R184, R203, R310, R324); an incomplete one is refused by name. -/
def Obligations.SampleWordsDecode : Prop :=
  decode [0x01#8, 0x34#8, 0x12#8] = .ok (.ldBcD16 0x1234#16, []) ∧
  decode [0xAF#8] = .ok (.xorAA, []) ∧
  decode [0xCB#8, 0x37#8] = .ok (.swapA, []) ∧
  decode [0x20#8, 0xFA#8] = .ok (.jrNzE8 0xFA#8, []) ∧
  decode [0xCB#8, 0xCB#8] = .ok (.set1E, []) ∧
  decode [0x76#8, 0x04#8] = .ok (.halt, [0x04#8]) ∧
  decode [0xED#8] = .ok (.illegalED, []) ∧
  decode [0x08#8, 0x00#8, 0xC4#8] = .ok (.ldIndA16Sp 0xC400#16, []) ∧
  decode [0xE0#8, 0x46#8] = .ok (.ldhIndA8A 0x46#8, []) ∧
  decode [0xF8#8, 0x02#8] = .ok (.ldHlSpE8 0x02#8, []) ∧
  decode [0xFF#8] = .ok (.rst38, []) ∧
  decode [0x10#8, 0x5A#8] = .ok (.stop, []) ∧
  decode [0xC3#8, 0x50#8] = .error .truncated

/-- Of all first bytes exactly the twelve raise `UnimplementedOpcode`; every other instruction, and every second byte of
the prefixed table, completes without it (R152, R340). -/
def Obligations.OnlyTheTwelveBytesRaise : Prop :=
  ∀ (b0 b1 b2 : Byte) (s : State), s.fault = none →
    ∃ t, exec (decodeBytes b0 b1 b2) s = .next t ∧
      (t.fault.isSome = true ↔
        b0.toNat ∈ [0x10, 0xD3, 0xDB, 0xDD, 0xE3, 0xE4, 0xEB, 0xEC, 0xED, 0xF4, 0xFC, 0xFD])

/-- Each of the twelve bytes, whatever follows it, raises: the byte and PC are recorded and every other item keeps its
value (R152, R324, R328, R340). -/
def Obligations.UnimplementedBytesRaise : Prop :=
  ∀ p ∈ unimplemented, Encoded p.1 p.2.1 (fun _ _ => p.2.2) ∧
    ∀ s : State, exec p.2.2 s = .next { s with fault := some (p.1, s.pc) }

/-! ## The machine step -/

/-- A step of a running machine is `exec` of the instruction decoded at PC, then, unless it raised, the timer tick with its
cost, the notification and the interrupt step; with a HALT bug pending the opcode byte is read again as the byte after
it (R140, R141, R323, R380). -/
def Obligations.StepRunsDecodedInstruction : Prop :=
  ∀ (s : State) (i : Instr) (rest : List Byte) (t : State), s.fault = none → s.halted = false →
    decode [readByte s s.pc,
      readByte s (if s.haltBug then s.pc else s.pc + 1#16),
      readByte s (if s.haltBug then s.pc + 1#16 else s.pc + 2#16)] = .ok (i, rest) →
    exec i s = .next t →
    step s = .next
      (if t.fault.isSome then t
      else
        let r := interruptStep (envNotify (timerTick t.cost t))
        { r.1 with cycles := t.cost + r.2.getD 0 })

/-- A halted CPU makes a phantom step of cost 4: nothing is fetched, the timer ticks by 4, the notification and the
interrupt step follow (R140, R321, R380). -/
def Obligations.HaltedStep : Prop :=
  ∀ s : State, s.fault = none → s.halted = true →
    step s = .next
      (let r := interruptStep (envNotify (timerTick 4 { s with cost := 4 }))
      { r.1 with cycles := 4 + r.2.getD 0 })

/-- A fault ends the step, with no cost, no tick, no notification and no interrupt step, and the run: from then on there is
no step and every state item is frozen (R381). -/
def Obligations.FaultEndsTheRun : Prop :=
  (∀ s : State, s.fault = none → s.halted = false →
    (readByte s s.pc).toNat ∈ [0x10, 0xD3, 0xDB, 0xDD, 0xE3, 0xE4, 0xEB, 0xEC, 0xED, 0xF4, 0xFC, 0xFD] →
    step s = .next { s with fault := some (readByte s s.pc, s.pc) }) ∧
  (∀ (s : State) (op : Byte) (pc : Word), s.fault = some (op, pc) → step s = .fault (.unimplementedOpcode op pc))

/-- The machine has a step exactly while no fault is recorded (R32, R380, R382). -/
def Obligations.StepAnswersUnlessFaulted : Prop :=
  ∀ s : State, (∃ t, step s = .next t) ↔ s.fault = none

/-! ## Reset -/

/-- The reset values, for every admitted parameter set (R60 to R65). -/
def Obligations.ResetValues : Prop :=
  ∀ p : Params,
    (State.init p).pc = 0x0100#16 ∧ (State.init p).sp = 0xFFFE#16 ∧
    (State.init p).regs = p.gpr ∧ (State.init p).f = p.flags ∧ (State.init p).f.toByte &&& 0x0F#8 = 0x00#8 ∧
    (State.init p).ime = false ∧ (State.init p).imePending = false ∧ (State.init p).halted = false ∧
    (State.init p).haltBug = false ∧ (State.init p).fault = none ∧
    (State.init p).ifr = 0#5 ∧ (State.init p).ie = 0x00#8 ∧
    (State.init p).timer = { div := 0x0000#16, acc := 0, tima := 0x00#8, tma := 0x00#8, tac := 0#3 } ∧
    (State.init p).dma = 0x00#8 ∧ (State.init p).vbk = 0#1 ∧ (State.init p).svbk = 0#3 ∧
    (∀ a : Word, 0xD000 ≤ a.toNat → a.toNat < 0xE000 →
      readByte (State.init p) a = p.mem.wram.read (0x1000 + (a.toNat - 0xD000))) ∧
    (State.init p).vram = p.mem.vram ∧ (State.init p).wram = p.mem.wram ∧ (State.init p).oam = p.mem.oam ∧
    (State.init p).hram = p.mem.hram ∧ (State.init p).cram = p.mem.cram ∧ (State.init p).io = p.mem.io ∧
    (p.variant = .mbc3 → ∀ k, (State.init p).cart.rtcRead k = p.mem.rtc.read k)

/-- The bank-select state at reset, and what it shows: ROM bank 0 at 0x0000, ROM bank 1 at 0x4000, cartridge RAM closed
(R66; `NBANKS` is at least 2 by R8). -/
def Obligations.ResetBanks : Prop :=
  ∀ p : Params, 2 ≤ p.cfg.nbanks →
    (State.init p).cart =
      (match p.variant with
        | .romOnly => .romOnly
        | .mbc1 => .mbc1 { ramEnable := false, bankLo := 1#5, bankHi := 0#2, mode := false }
        | .mbc3 => .mbc3 { ramEnable := false, romBank := 1#7, ramSel := 0#4, rtc := p.mem.rtc }
        | .mbc5 => .mbc5 { ramEnable := false, romBank := 1#9, ramSel := 0#4 }) ∧
    (∀ a : Word, a.toNat < 0x4000 → readByte (State.init p) a = Memory.read p.cfg.rom (0 * 0x4000 + a.toNat)) ∧
    (∀ a : Word, 0x4000 ≤ a.toNat → a.toNat < 0x8000 →
      readByte (State.init p) a = Memory.read p.cfg.rom (1 * 0x4000 + (a.toNat - 0x4000))) ∧
    (∀ a : Word, 0xA000 ≤ a.toNat → a.toNat < 0xC000 → readByte (State.init p) a = 0xFF#8)

/-- The invariant holds at reset (the configuration of `State.reset` is the model's choice, log 2). -/
def Obligations.ResetMeetsInvariant : Prop := State.reset.Inv

/-- Every step keeps the invariant, from every state that has it (R36, R45 to R47, R126, R323, R340). -/
def Obligations.StepKeepsInvariant : Prop :=
  ∀ s t : State, s.Inv → step s = .next t → t.Inv

/-- No step changes the configuration, the ROM image or the cartridge variant (R47, R50, R80, R100). -/
def Obligations.StepKeepsConfiguration : Prop :=
  ∀ s t : State, step s = .next t → t.cfg = s.cfg ∧ t.cart.variant = s.cart.variant

/-! ## The bus -/

/-- A byte written where there is plain storage is read back (R79, R81 to R84, R86, R88, R89, R92, R95, R96). -/
def Obligations.StorageReadsBack : Prop :=
  ∀ (s : State) (a : Word) (v : Byte), s.storesOk = true → s.cart.ok = true → storage s a = true →
    readByte (writeByte s a v) a = v

/-- A bus write changes what is read at no address but its own and those its side effect reaches, and it changes no
register and no latch (R73, R79). -/
def Obligations.BusWriteFrame : Prop :=
  ∀ (s : State) (x : Word) (v : Byte),
    (∀ a : Word, touched s x a = false → readByte (writeByte s x v) a = readByte s a) ∧
    (writeByte s x v).regs = s.regs ∧ (writeByte s x v).f = s.f ∧ (writeByte s x v).sp = s.sp ∧
    (writeByte s x v).pc = s.pc ∧ (writeByte s x v).ime = s.ime ∧
    (writeByte s x v).imePending = s.imePending ∧ (writeByte s x v).halted = s.halted ∧
    (writeByte s x v).haltBug = s.haltBug ∧ (writeByte s x v).fault = s.fault ∧
    (writeByte s x v).cfg = s.cfg ∧ (writeByte s x v).env = s.env ∧ (writeByte s x v).cost = s.cost ∧
    (writeByte s x v).cycles = s.cycles

/-- The echo and the unusable regions read 0xFF and discard writes (R85, R87). -/
def Obligations.EchoAndUnusableRegions : Prop :=
  ∀ (s : State) (a : Word) (v : Byte),
    (0xE000 ≤ a.toNat ∧ a.toNat ≤ 0xFDFF) ∨ (0xFEA0 ≤ a.toNat ∧ a.toNat ≤ 0xFEFF) →
    readByte s a = 0xFF#8 ∧ writeByte s a v = s

/-- The registers DIV, TIMA, TMA, TAC, IF and IE: what a read gives and everything a write does (R89, R91 to R94). -/
def Obligations.TimerAndInterruptRegisters : Prop :=
  ∀ (s : State) (v : Byte),
    readByte s 0xFF04#16 = (s.timer.div >>> 8).setWidth 8 ∧
    writeByte s 0xFF04#16 v = { s with timer := { s.timer with div := 0x0000#16, acc := 0 } } ∧
    readByte s 0xFF05#16 = s.timer.tima ∧
    writeByte s 0xFF05#16 v = { s with timer := { s.timer with tima := v } } ∧
    readByte s 0xFF06#16 = s.timer.tma ∧
    writeByte s 0xFF06#16 v = { s with timer := { s.timer with tma := v } } ∧
    readByte s 0xFF07#16 = 0xF8#8 ||| s.timer.tac.setWidth 8 ∧
    writeByte s 0xFF07#16 v =
      { s with
        timer :=
          { s.timer with
            tac := v.setWidth 3
            acc := if v &&& 0x03#8 = s.timer.tac.setWidth 8 &&& 0x03#8 then s.timer.acc else 0 } } ∧
    (s.timer.tac.getLsbD 2 = false → ∀ c, (timerTick c s).timer.acc = s.timer.acc) ∧
    readByte s 0xFF0F#16 = 0xE0#8 ||| s.ifr.setWidth 8 ∧
    writeByte s 0xFF0F#16 v = { s with ifr := v.setWidth 5 } ∧
    readByte s 0xFFFF#16 = s.ie ∧
    writeByte s 0xFFFF#16 v = { s with ie := v } ∧
    pending s = s.ifr &&& s.ie.setWidth 5

/-- VBK and SVBK, and the two windows they move (R81, R84, R97, R98). -/
def Obligations.BankSelectors : Prop :=
  ∀ (s : State) (v : Byte),
    readByte s 0xFF4F#16 = 0xFE#8 ||| s.vbk.setWidth 8 ∧
    writeByte s 0xFF4F#16 v = { s with vbk := v.setWidth 1 } ∧
    readByte s 0xFF70#16 = 0xF8#8 ||| s.svbk.setWidth 8 ∧
    writeByte s 0xFF70#16 v = { s with svbk := v.setWidth 3 } ∧
    (∀ a : Word, 0x8000 ≤ a.toNat → a.toNat < 0xA000 →
      let k := (if s.cfg.vramBanks = .two then s.vbk.toNat else 0) * 0x2000 + (a.toNat - 0x8000)
      readByte s a = s.vram.read k ∧ writeByte s a v = { s with vram := s.vram.write k v }) ∧
    (∀ a : Word, 0xD000 ≤ a.toNat → a.toNat < 0xE000 →
      let k := (if s.cfg.wramBanks = .eight then (if s.svbk = 0#3 then 1 else s.svbk.toNat) else 1) * 0x1000 +
        (a.toNat - 0xD000)
      readByte s a = s.wram.read k ∧ writeByte s a v = { s with wram := s.wram.write k v })

/-- A write of the DMA trigger stores the byte and copies 160 bytes of that page, as the bus reads them, into object
memory; it does nothing else (R95, R135). -/
def Obligations.DmaCopies : Prop :=
  ∀ (s : State) (v : Byte), s.storesOk = true →
    let t := writeByte s 0xFF46#16 v
    readByte s 0xFF46#16 = s.dma ∧
    t = { s with dma := v, oam := t.oam } ∧
    ∀ i, i < 160 → t.oam.read i = readByte { s with dma := v } (BitVec.ofNat 16 (v.toNat * 0x100 + i))

/-- `ROM_ONLY` is a flat read-only image without RAM; the RAM gate of the banked variants opens on a low nibble 0xA, and a
closed window reads 0xFF and ignores writes (R112, R113). -/
def Obligations.RomOnlyAndRamGate : Prop :=
  (∀ s : State, s.cart = .romOnly →
    (∀ a : Word, a.toNat < 0x8000 → readByte s a = Memory.read s.cfg.rom a.toNat) ∧
    (∀ (a : Word) (v : Byte), a.toNat < 0x8000 → writeByte s a v = s) ∧
    (∀ (a : Word) (v : Byte), 0xA000 ≤ a.toNat → a.toNat < 0xC000 → readByte s a = 0xFF#8 ∧ writeByte s a v = s)) ∧
  (∀ (s : State) (a : Word) (v : Byte), s.cart ≠ .romOnly → a.toNat < 0x2000 →
    (writeByte s a v).cart.gate = decide (v.toNat % 16 = 0xA)) ∧
  (∀ (s : State) (a : Word) (v : Byte), s.cart.gate = false → 0xA000 ≤ a.toNat → a.toNat < 0xC000 →
    readByte s a = 0xFF#8 ∧ writeByte s a v = s)

/-- MBC1: control writes, ROM windows, RAM window (R113 to R116). -/
def Obligations.Mbc1Banking : Prop :=
  ∀ (s : State) (m : Mbc1), s.cart = .mbc1 m →
    (∀ (a : Word) (v : Byte), a.toNat < 0x8000 →
      writeByte s a v =
        { s with
          cart := .mbc1
            (if a.toNat < 0x2000 then { m with ramEnable := decide (v.toNat % 16 = 0xA) }
            else if a.toNat < 0x4000 then { m with bankLo := if v.toNat % 32 = 0 then 1#5 else v.setWidth 5 }
            else if a.toNat < 0x6000 then { m with bankHi := v.setWidth 2 }
            else { m with mode := v.getLsbD 0 }) }) ∧
    (∀ a : Word, a.toNat < 0x4000 →
      readByte s a =
        Memory.read s.cfg.rom ((if m.mode then m.bankHi.toNat * 32 % s.cfg.nbanks else 0) * 0x4000 + a.toNat)) ∧
    (∀ a : Word, 0x4000 ≤ a.toNat → a.toNat < 0x8000 →
      readByte s a =
        Memory.read s.cfg.rom
          ((m.bankHi.toNat * 32 + m.bankLo.toNat) % s.cfg.nbanks * 0x4000 + (a.toNat - 0x4000))) ∧
    (∀ (a : Word) (v : Byte), 0xA000 ≤ a.toNat → a.toNat < 0xC000 →
      if m.ramEnable = false ∨ s.cfg.cramSize = .none then readByte s a = 0xFF#8 ∧ writeByte s a v = s
      else
        let k := ((if m.mode then m.bankHi.toNat else 0) * 0x2000 + (a.toNat - 0xA000)) % s.cfg.cramSize.bytes
        readByte s a = s.cram.read k ∧ writeByte s a v = { s with cram := s.cram.write k v })

/-- MBC3: control writes, ROM windows, RAM and clock window (R113, R118 to R120). -/
def Obligations.Mbc3Banking : Prop :=
  ∀ (s : State) (m : Mbc3), s.cart = .mbc3 m →
    (∀ (a : Word) (v : Byte), a.toNat < 0x8000 →
      writeByte s a v =
        { s with
          cart := .mbc3
            (if a.toNat < 0x2000 then { m with ramEnable := decide (v.toNat % 16 = 0xA) }
            else if a.toNat < 0x4000 then { m with romBank := if v.toNat % 128 = 0 then 1#7 else v.setWidth 7 }
            else if a.toNat < 0x6000 then { m with ramSel := v.setWidth 4 }
            else m) }) ∧
    (∀ a : Word, a.toNat < 0x4000 → readByte s a = Memory.read s.cfg.rom a.toNat) ∧
    (∀ a : Word, 0x4000 ≤ a.toNat → a.toNat < 0x8000 →
      readByte s a = Memory.read s.cfg.rom (m.romBank.toNat % s.cfg.nbanks * 0x4000 + (a.toNat - 0x4000))) ∧
    (∀ (a : Word) (v : Byte), 0xA000 ≤ a.toNat → a.toNat < 0xC000 →
      if m.ramEnable = false then readByte s a = 0xFF#8 ∧ writeByte s a v = s
      else if 0x8 ≤ m.ramSel.toNat ∧ m.ramSel.toNat ≤ 0xC then
        readByte s a = m.rtc.read (m.ramSel.toNat - 8) ∧
          writeByte s a v = { s with cart := .mbc3 { m with rtc := m.rtc.write (m.ramSel.toNat - 8) v } }
      else if m.ramSel.toNat ≤ 0x3 ∧ s.cfg.cramSize ≠ .none then
        let k := (m.ramSel.toNat * 0x2000 + (a.toNat - 0xA000)) % s.cfg.cramSize.bytes
        readByte s a = s.cram.read k ∧ writeByte s a v = { s with cram := s.cram.write k v }
      else readByte s a = 0xFF#8 ∧ writeByte s a v = s)

/-- MBC5: control writes without a bank-0 rule, ROM windows, RAM window (R113, R122 to R124). -/
def Obligations.Mbc5Banking : Prop :=
  ∀ (s : State) (m : Mbc5), s.cart = .mbc5 m →
    (∀ (a : Word) (v : Byte), a.toNat < 0x8000 →
      writeByte s a v =
        { s with
          cart := .mbc5
            (if a.toNat < 0x2000 then { m with ramEnable := decide (v.toNat % 16 = 0xA) }
            else if a.toNat < 0x3000 then
              { m with romBank := BitVec.ofNat 9 (m.romBank.toNat / 256 * 256 + v.toNat) }
            else if a.toNat < 0x4000 then
              { m with romBank := BitVec.ofNat 9 (v.toNat % 2 * 256 + m.romBank.toNat % 256) }
            else if a.toNat < 0x6000 then { m with ramSel := v.setWidth 4 }
            else m) }) ∧
    (∀ a : Word, a.toNat < 0x4000 → readByte s a = Memory.read s.cfg.rom a.toNat) ∧
    (∀ a : Word, 0x4000 ≤ a.toNat → a.toNat < 0x8000 →
      readByte s a = Memory.read s.cfg.rom (m.romBank.toNat % s.cfg.nbanks * 0x4000 + (a.toNat - 0x4000))) ∧
    (∀ (a : Word) (v : Byte), 0xA000 ≤ a.toNat → a.toNat < 0xC000 →
      if m.ramEnable = false ∨ s.cfg.cramSize = .none then readByte s a = 0xFF#8 ∧ writeByte s a v = s
      else
        let k := (m.ramSel.toNat * 0x2000 + (a.toNat - 0xA000)) % s.cfg.cramSize.bytes
        readByte s a = s.cram.read k ∧ writeByte s a v = { s with cram := s.cram.write k v })

/-- A word access is two byte accesses, low byte first at the lower address, and a push is a word write at the decremented
`SP` (R74, R75, R205). -/
def Obligations.WordAccessAndPush : Prop :=
  ∀ (s : State) (a v : Word),
    readWord s a = readByte s (a + 1#16) ++ readByte s a ∧
    writeWord s a v = writeByte (writeByte s a (v.setWidth 8)) (a + 1#16) ((v >>> 8).setWidth 8) ∧
    push16 v s =
      writeByte (writeByte { s with sp := s.sp - 2#16 } (s.sp - 2#16) (v.setWidth 8)) (s.sp - 2#16 + 1#16)
        ((v >>> 8).setWidth 8)

/-- A pop reads the word at `SP` and moves `SP` up by 2; after a push into plain RAM it returns the value and restores
`SP`, and so does RET after CALL (R206; R307, the symmetry property). -/
def Obligations.PushPopSymmetry : Prop :=
  (∀ s : State, popValue s = readByte s (s.sp + 1#16) ++ readByte s s.sp ∧ popSp s = { s with sp := s.sp + 2#16 }) ∧
  (∀ (s : State) (v : Word), s.storesOk = true → plainRam s (s.sp - 2#16) = true → plainRam s (s.sp - 1#16) = true →
    popValue (push16 v s) = v ∧ (popSp (push16 v s)).sp = s.sp) ∧
  (∀ (s t : State) (a : Word), s.storesOk = true → plainRam s (s.sp - 2#16) = true → plainRam s (s.sp - 1#16) = true →
    exec (.callA16 a) s = .next t →
    ∃ u, exec .ret t = .next u ∧ u.pc = (retired 3 24 s).pc ∧ u.sp = s.sp)

/-! ## 8-bit loads -/

/-- LD r8,r8 and LD r8,d8: encoding, result, cost, everything else unchanged (R170, R171). -/
def Obligations.RegisterLoads : Prop :=
  (∀ (rd r : Reg8) (s : State),
    Encoded (0b01#2 ++ rd.code ++ r.code) 1 (fun _ _ => Fam.ldRR rd r) ∧
    exec (Fam.ldRR rd r) s = .next { retired 1 4 s with regs := s.regs.set rd (s.regs.get r) }) ∧
  (∀ (rd : Reg8) (v : Byte) (s : State),
    Encoded (0b00#2 ++ rd.code ++ 0b110#3) 2 (fun b1 _ => Fam.ldRD8 rd b1) ∧
    exec (Fam.ldRD8 rd v) s = .next { retired 2 8 s with regs := s.regs.set rd v }) ∧
  (∀ (g : Regs) (rd r : Reg8) (v : Byte), (g.set rd v).get r = if r = rd then v else g.get r)

/-- The loads of a register from memory: LD r8,(HL); LD A,(BC); LD A,(DE); LD A,(a16); LDH A,(C); LDH A,(a8) (R172, R175,
R176, R179, R181, R183). -/
def Obligations.MemoryLoads : Prop :=
  (∀ (rd : Reg8) (s : State),
    Encoded (0b01#2 ++ rd.code ++ 0b110#3) 1 (fun _ _ => Fam.ldRHl rd) ∧
    exec (Fam.ldRHl rd) s =
      .next { retired 1 8 s with regs := s.regs.set rd (readByte s (s.regs.h ++ s.regs.l)) }) ∧
  (∀ s : State,
    Encoded 0x0A#8 1 (fun _ _ => .ldAIndBc) ∧
    exec .ldAIndBc s = .next { retired 1 8 s with regs := { s.regs with a := readByte s (s.regs.b ++ s.regs.c) } }) ∧
  (∀ s : State,
    Encoded 0x1A#8 1 (fun _ _ => .ldAIndDe) ∧
    exec .ldAIndDe s = .next { retired 1 8 s with regs := { s.regs with a := readByte s (s.regs.d ++ s.regs.e) } }) ∧
  (∀ (a : Word) (s : State),
    Encoded 0xFA#8 3 (fun b1 b2 => .ldAIndA16 (b2 ++ b1)) ∧
    exec (.ldAIndA16 a) s = .next { retired 3 16 s with regs := { s.regs with a := readByte s a } }) ∧
  (∀ s : State,
    Encoded 0xF2#8 1 (fun _ _ => .ldhAIndC) ∧
    exec .ldhAIndC s = .next { retired 1 8 s with regs := { s.regs with a := readByte s (0xFF#8 ++ s.regs.c) } }) ∧
  (∀ (n : Byte) (s : State),
    Encoded 0xF0#8 2 (fun b1 _ => .ldhAIndA8 b1) ∧
    exec (.ldhAIndA8 n) s = .next { retired 2 12 s with regs := { s.regs with a := readByte s (0xFF#8 ++ n) } })

/-- The stores of a register or an immediate to memory: LD (HL),r8; LD (HL),d8; LD (BC),A; LD (DE),A; LD (a16),A; LDH (C),A;
LDH (a8),A. The one bus write is the whole effect (R173, R174, R177, R178, R180, R182, R184). -/
def Obligations.MemoryStores : Prop :=
  (∀ (r : Reg8) (s : State),
    Encoded (0b01110#5 ++ r.code) 1 (fun _ _ => Fam.ldHlR r) ∧
    exec (Fam.ldHlR r) s = .next (writeByte (retired 1 8 s) (s.regs.h ++ s.regs.l) (s.regs.get r))) ∧
  (∀ (v : Byte) (s : State),
    Encoded 0x36#8 2 (fun b1 _ => .ldIndHlD8 b1) ∧
    exec (.ldIndHlD8 v) s = .next (writeByte (retired 2 12 s) (s.regs.h ++ s.regs.l) v)) ∧
  (∀ s : State,
    Encoded 0x02#8 1 (fun _ _ => .ldIndBcA) ∧
    exec .ldIndBcA s = .next (writeByte (retired 1 8 s) (s.regs.b ++ s.regs.c) s.regs.a)) ∧
  (∀ s : State,
    Encoded 0x12#8 1 (fun _ _ => .ldIndDeA) ∧
    exec .ldIndDeA s = .next (writeByte (retired 1 8 s) (s.regs.d ++ s.regs.e) s.regs.a)) ∧
  (∀ (a : Word) (s : State),
    Encoded 0xEA#8 3 (fun b1 b2 => .ldIndA16A (b2 ++ b1)) ∧
    exec (.ldIndA16A a) s = .next (writeByte (retired 3 16 s) a s.regs.a)) ∧
  (∀ s : State,
    Encoded 0xE2#8 1 (fun _ _ => .ldhIndCA) ∧
    exec .ldhIndCA s = .next (writeByte (retired 1 8 s) (0xFF#8 ++ s.regs.c) s.regs.a)) ∧
  (∀ (n : Byte) (s : State),
    Encoded 0xE0#8 2 (fun b1 _ => .ldhIndA8A b1) ∧
    exec (.ldhIndA8A n) s = .next (writeByte (retired 2 12 s) (0xFF#8 ++ n) s.regs.a))

/-- The loads and stores that step HL after the access (R185 to R188). -/
def Obligations.SteppingLoadsAndStores : Prop :=
  ∀ s : State,
    let p : Word := s.regs.h ++ s.regs.l
    let up : Word := p + 1#16
    let down : Word := p - 1#16
    (Encoded 0x3A#8 1 (fun _ _ => .ldAIndHlDec) ∧
      exec .ldAIndHlDec s =
        .next { retired 1 8 s with
          regs := { s.regs with a := readByte s p, h := (down >>> 8).setWidth 8, l := down.setWidth 8 } }) ∧
    (Encoded 0x2A#8 1 (fun _ _ => .ldAIndHlInc) ∧
      exec .ldAIndHlInc s =
        .next { retired 1 8 s with
          regs := { s.regs with a := readByte s p, h := (up >>> 8).setWidth 8, l := up.setWidth 8 } }) ∧
    (Encoded 0x32#8 1 (fun _ _ => .ldIndHlDecA) ∧
      exec .ldIndHlDecA s =
        .next { writeByte (retired 1 8 s) p s.regs.a with
          regs := { s.regs with h := (down >>> 8).setWidth 8, l := down.setWidth 8 } }) ∧
    (Encoded 0x22#8 1 (fun _ _ => .ldIndHlIncA) ∧
      exec .ldIndHlIncA s =
        .next { writeByte (retired 1 8 s) p s.regs.a with
          regs := { s.regs with h := (up >>> 8).setWidth 8, l := up.setWidth 8 } })

/-! ## 16-bit loads and the stack -/

/-- LD r16,d16; LD (a16),SP; LD SP,HL (R200 to R202). -/
def Obligations.SixteenBitLoads : Prop :=
  (∀ (p : Reg16) (v : Word) (s : State),
    Encoded (0b00#2 ++ p.code ++ 0b0001#4) 3 (fun b1 b2 => Fam.ldR16D16 p (b2 ++ b1)) ∧
    exec (Fam.ldR16D16 p v) s =
      .next
        (match p with
          | .bc => { retired 3 12 s with regs := { s.regs with b := (v >>> 8).setWidth 8, c := v.setWidth 8 } }
          | .de => { retired 3 12 s with regs := { s.regs with d := (v >>> 8).setWidth 8, e := v.setWidth 8 } }
          | .hl => { retired 3 12 s with regs := { s.regs with h := (v >>> 8).setWidth 8, l := v.setWidth 8 } }
          | .sp => { retired 3 12 s with sp := v })) ∧
  (∀ (a : Word) (s : State),
    Encoded 0x08#8 3 (fun b1 b2 => .ldIndA16Sp (b2 ++ b1)) ∧
    exec (.ldIndA16Sp a) s =
      .next
        (writeByte (writeByte (retired 3 20 s) a (s.sp.setWidth 8)) (a + 1#16) ((s.sp >>> 8).setWidth 8))) ∧
  (∀ s : State,
    Encoded 0xF9#8 1 (fun _ _ => .ldSpHl) ∧
    exec .ldSpHl s = .next { retired 1 8 s with sp := s.regs.h ++ s.regs.l })

/-- LD HL,SP+e8 and ADD SP,e8: the sum with the sign-extended displacement, the carries of the unsigned low-byte addition
(R203, R263). -/
def Obligations.SpPlusDisplacement : Prop :=
  ∀ (e : Byte) (s : State),
    let r : Word := s.sp + e.signExtend 16
    let f : Flags :=
      { z := false
        n := false
        hf := decide (0xF < s.sp.toNat % 16 + e.toNat % 16)
        cf := decide (0xFF < s.sp.toNat % 256 + e.toNat) }
    (Encoded 0xF8#8 2 (fun b1 _ => .ldHlSpE8 b1) ∧
      exec (.ldHlSpE8 e) s =
        .next { retired 2 12 s with
          regs := { s.regs with h := (r >>> 8).setWidth 8, l := r.setWidth 8 }, f := f }) ∧
    (Encoded 0xE8#8 2 (fun b1 _ => .addSpE8 b1) ∧
      exec (.addSpE8 e) s = .next { retired 2 16 s with sp := r, f := f })

/-- PUSH and POP of the four pairs. AF is pushed with the low nibble of F zero; POP AF takes the four flags from bits 7 to 4
of the popped low byte (R204, R207, R208). -/
def Obligations.PushAndPop : Prop :=
  (∀ (p : Reg16Stk) (s : State),
    Encoded (0b11#2 ++ p.code ++ 0b0101#4) 1 (fun _ _ => Fam.push p) ∧
    exec (Fam.push p) s =
      .next
        (push16
          (match p with
            | .bc => s.regs.b ++ s.regs.c
            | .de => s.regs.d ++ s.regs.e
            | .hl => s.regs.h ++ s.regs.l
            | .af =>
              s.regs.a ++ (BitVec.ofBool s.f.z ++ BitVec.ofBool s.f.n ++ BitVec.ofBool s.f.hf ++ BitVec.ofBool s.f.cf ++ 0#4))
          (retired 1 16 s))) ∧
  (∀ (p : Reg16Stk) (s : State),
    let high := readByte s (s.sp + 1#16)
    let low := readByte s s.sp
    let u := { retired 1 12 s with sp := s.sp + 2#16 }
    Encoded (0b11#2 ++ p.code ++ 0b0001#4) 1 (fun _ _ => Fam.pop p) ∧
    exec (Fam.pop p) s =
      .next
        (match p with
          | .bc => { u with regs := { s.regs with b := high, c := low } }
          | .de => { u with regs := { s.regs with d := high, e := low } }
          | .hl => { u with regs := { s.regs with h := high, l := low } }
          | .af =>
            { u with
              regs := { s.regs with a := high }
              f := { z := low.getLsbD 7, n := low.getLsbD 6, hf := low.getLsbD 5, cf := low.getLsbD 4 } }))

/-! ## 8-bit arithmetic and logic -/

/-- ADD and ADC on a register, the byte at HL, an immediate: sum, flags, cost (R221 to R226, by the flag law R220). -/
def Obligations.AdditionInstructions : Prop :=
  ∀ (op : AluOp) (s : State), op = .add ∨ op = .adc →
    let c := op == .adc && s.f.cf
    let result (len cost : Nat) (b : Byte) : State :=
      { retired len cost s with
        regs := { s.regs with a := s.regs.a + b + (BitVec.ofBool c).setWidth 8 }
        f := sumFlags s.regs.a b c }
    (∀ r : Reg8,
      Encoded (0b10#2 ++ op.code ++ r.code) 1 (fun _ _ => Fam.aluR op r) ∧
      exec (Fam.aluR op r) s = .next (result 1 4 (s.regs.get r))) ∧
    Encoded (0b10#2 ++ op.code ++ 0b110#3) 1 (fun _ _ => Fam.aluHl op) ∧
    exec (Fam.aluHl op) s = .next (result 1 8 (readByte s (s.regs.h ++ s.regs.l))) ∧
    (∀ v : Byte,
      Encoded (0b11#2 ++ op.code ++ 0b110#3) 2 (fun b1 _ => Fam.aluD8 op b1) ∧
      exec (Fam.aluD8 op v) s = .next (result 2 8 v))

/-- SUB, SBC and CP on a register, the byte at HL, an immediate: difference, flags, cost; CP writes the flags alone (R227 to
R232, R242 to R244, by the flag law R220). -/
def Obligations.SubtractionInstructions : Prop :=
  ∀ (op : AluOp) (s : State), op = .sub ∨ op = .sbc ∨ op = .cp →
    let c := op == .sbc && s.f.cf
    let result (len cost : Nat) (b : Byte) : State :=
      { retired len cost s with
        regs := { s.regs with a := if op = .cp then s.regs.a else s.regs.a - b - (BitVec.ofBool c).setWidth 8 }
        f := diffFlags s.regs.a b c }
    (∀ r : Reg8,
      Encoded (0b10#2 ++ op.code ++ r.code) 1 (fun _ _ => Fam.aluR op r) ∧
      exec (Fam.aluR op r) s = .next (result 1 4 (s.regs.get r))) ∧
    Encoded (0b10#2 ++ op.code ++ 0b110#3) 1 (fun _ _ => Fam.aluHl op) ∧
    exec (Fam.aluHl op) s = .next (result 1 8 (readByte s (s.regs.h ++ s.regs.l))) ∧
    (∀ v : Byte,
      Encoded (0b11#2 ++ op.code ++ 0b110#3) 2 (fun b1 _ => Fam.aluD8 op b1) ∧
      exec (Fam.aluD8 op v) s = .next (result 2 8 v))

/-- AND, XOR and OR on a register, the byte at HL, an immediate: Z from the result, N = 0, HF = 1 for AND alone, CF = 0 (R233
to R241); `XOR A,A` always gives 0 and F = 0x80. -/
def Obligations.LogicInstructions : Prop :=
  (∀ (op : AluOp) (s : State), op = .and ∨ op = .xor ∨ op = .or →
    let value (b : Byte) : Byte :=
      if op = .and then s.regs.a &&& b else if op = .xor then s.regs.a ^^^ b else s.regs.a ||| b
    let result (len cost : Nat) (b : Byte) : State :=
      { retired len cost s with
        regs := { s.regs with a := value b }
        f := { z := value b == 0x00#8, n := false, hf := op == .and, cf := false } }
    (∀ r : Reg8,
      Encoded (0b10#2 ++ op.code ++ r.code) 1 (fun _ _ => Fam.aluR op r) ∧
      exec (Fam.aluR op r) s = .next (result 1 4 (s.regs.get r))) ∧
    Encoded (0b10#2 ++ op.code ++ 0b110#3) 1 (fun _ _ => Fam.aluHl op) ∧
    exec (Fam.aluHl op) s = .next (result 1 8 (readByte s (s.regs.h ++ s.regs.l))) ∧
    (∀ v : Byte,
      Encoded (0b11#2 ++ op.code ++ 0b110#3) 2 (fun b1 _ => Fam.aluD8 op b1) ∧
      exec (Fam.aluD8 op v) s = .next (result 2 8 v))) ∧
  (∀ s : State, exec .xorAA s =
    .next { retired 1 4 s with
      regs := { s.regs with a := 0x00#8 }, f := { z := true, n := false, hf := false, cf := false } })

/-- INC and DEC of a register and of the byte at HL: the result modulo 256, Z, N and HF; CF unchanged (R245 to R248). -/
def Obligations.IncrementAndDecrement : Prop :=
  ∀ s : State,
    let incF (v : Byte) : Flags := { z := v == 0xFF#8, n := false, hf := v.toNat % 16 == 0xF, cf := s.f.cf }
    let decF (v : Byte) : Flags := { z := v == 0x01#8, n := true, hf := v.toNat % 16 == 0, cf := s.f.cf }
    let p : Word := s.regs.h ++ s.regs.l
    let m : Byte := readByte s p
    (∀ rd : Reg8,
      Encoded (0b00#2 ++ rd.code ++ 0b100#3) 1 (fun _ _ => Fam.incR rd) ∧
      exec (Fam.incR rd) s =
        .next { retired 1 4 s with regs := s.regs.set rd (s.regs.get rd + 1#8), f := incF (s.regs.get rd) }) ∧
    (∀ rd : Reg8,
      Encoded (0b00#2 ++ rd.code ++ 0b101#3) 1 (fun _ _ => Fam.decR rd) ∧
      exec (Fam.decR rd) s =
        .next { retired 1 4 s with regs := s.regs.set rd (s.regs.get rd - 1#8), f := decF (s.regs.get rd) }) ∧
    Encoded 0x34#8 1 (fun _ _ => .incIndHl) ∧
    exec .incIndHl s = .next { writeByte (retired 1 12 s) p (m + 1#8) with f := incF m } ∧
    Encoded 0x35#8 1 (fun _ _ => .decIndHl) ∧
    exec .decIndHl s = .next { writeByte (retired 1 12 s) p (m - 1#8) with f := decF m }

/-- DAA, CPL, SCF and CCF (R249 to R252). -/
def Obligations.AdjustInstructions : Prop :=
  ∀ s : State,
    let low := s.f.hf || (!s.f.n && decide (9 < s.regs.a.toNat % 16))
    let high := s.f.cf || (!s.f.n && decide (0x99 < s.regs.a.toNat))
    let off : Byte := (if low then 0x06#8 else 0x00#8) + (if high then 0x60#8 else 0x00#8)
    let adjusted : Byte := if s.f.n then s.regs.a - off else s.regs.a + off
    (Encoded 0x27#8 1 (fun _ _ => .daa) ∧
      exec .daa s =
        .next { retired 1 4 s with
          regs := { s.regs with a := adjusted }
          f := { z := adjusted == 0x00#8, n := s.f.n, hf := false, cf := high } }) ∧
    (Encoded 0x2F#8 1 (fun _ _ => .cpl) ∧
      exec .cpl s =
        .next { retired 1 4 s with
          regs := { s.regs with a := s.regs.a ^^^ 0xFF#8 }, f := { s.f with n := true, hf := true } }) ∧
    (Encoded 0x37#8 1 (fun _ _ => .scf) ∧
      exec .scf s = .next { retired 1 4 s with f := { s.f with n := false, hf := false, cf := true } }) ∧
    (Encoded 0x3F#8 1 (fun _ _ => .ccf) ∧
      exec .ccf s = .next { retired 1 4 s with f := { s.f with n := false, hf := false, cf := !s.f.cf } })

/-- INC then DEC of a register, or DEC then INC, restores it; Z and HF depend on the value alone, N on the order, CF is
unchanged (R253; the second property of 95_test_vectors.md, S4). -/
def Obligations.IncrementThenDecrement : Prop :=
  ∀ (rd : Reg8) (s : State),
    (∃ t u, exec (Fam.incR rd) s = .next t ∧ exec (Fam.decR rd) t = .next u ∧ u.regs = s.regs ∧
      u.f = { z := s.regs.get rd == 0x00#8, n := true, hf := (s.regs.get rd).toNat % 16 == 0xF, cf := s.f.cf }) ∧
    (∃ t u, exec (Fam.decR rd) s = .next t ∧ exec (Fam.incR rd) t = .next u ∧ u.regs = s.regs ∧
      u.f = { z := s.regs.get rd == 0x00#8, n := false, hf := (s.regs.get rd).toNat % 16 == 0, cf := s.f.cf })

/-- DAA right after an addition or subtraction of two decimal operands gives the decimal result modulo 100, CF the decimal
overflow (R249; the property of 95_test_vectors.md, S6). -/
def Obligations.DecimalAdjustAfterArithmetic : Prop :=
  ∀ (op : AluOp) (b : Byte) (s : State), isBcd s.regs.a → isBcd b →
    let c := if op = .adc ∨ op = .sbc then s.f.cf.toNat else 0
    (op = .add ∨ op = .adc →
      ∃ t u, exec (Fam.aluD8 op b) s = .next t ∧ exec .daa t = .next u ∧ isBcd u.regs.a ∧
        bcdValue u.regs.a = (bcdValue s.regs.a + bcdValue b + c) % 100 ∧
        u.f =
          { z := u.regs.a == 0x00#8
            n := false
            hf := false
            cf := decide (99 < bcdValue s.regs.a + bcdValue b + c) }) ∧
    (op = .sub ∨ op = .sbc →
      ∃ t u, exec (Fam.aluD8 op b) s = .next t ∧ exec .daa t = .next u ∧ isBcd u.regs.a ∧
        bcdValue u.regs.a = (100 + bcdValue s.regs.a - (bcdValue b + c)) % 100 ∧
        u.f =
          { z := u.regs.a == 0x00#8
            n := true
            hf := false
            cf := decide (bcdValue s.regs.a < bcdValue b + c) })

/-! ## 16-bit arithmetic -/

/-- ADD HL,r16 with carries out of bits 11 and 15 and Z kept; INC r16 and DEC r16 without flags, only the pair's two registers
or SP written (R260 to R262, R264). -/
def Obligations.PairArithmetic : Prop :=
  ∀ (p : Reg16) (s : State),
    let x : Word := s.regs.h ++ s.regs.l
    let v : Word :=
      match p with
      | .bc => s.regs.b ++ s.regs.c
      | .de => s.regs.d ++ s.regs.e
      | .hl => x
      | .sp => s.sp
    let wrote (w : Word) : State :=
      match p with
      | .bc => { retired 1 8 s with regs := { s.regs with b := (w >>> 8).setWidth 8, c := w.setWidth 8 } }
      | .de => { retired 1 8 s with regs := { s.regs with d := (w >>> 8).setWidth 8, e := w.setWidth 8 } }
      | .hl => { retired 1 8 s with regs := { s.regs with h := (w >>> 8).setWidth 8, l := w.setWidth 8 } }
      | .sp => { retired 1 8 s with sp := w }
    (Encoded (0b00#2 ++ p.code ++ 0b1001#4) 1 (fun _ _ => Fam.addHl p) ∧
      exec (Fam.addHl p) s =
        .next { retired 1 8 s with
          regs := { s.regs with h := ((x + v) >>> 8).setWidth 8, l := (x + v).setWidth 8 }
          f :=
            { z := s.f.z
              n := false
              hf := decide (0xFFF < x.toNat % 0x1000 + v.toNat % 0x1000)
              cf := decide (0xFFFF < x.toNat + v.toNat) } }) ∧
    (Encoded (0b00#2 ++ p.code ++ 0b0011#4) 1 (fun _ _ => Fam.incR16 p) ∧
      exec (Fam.incR16 p) s = .next (wrote (v + 1#16))) ∧
    (Encoded (0b00#2 ++ p.code ++ 0b1011#4) 1 (fun _ _ => Fam.decR16 p) ∧
      exec (Fam.decR16 p) s = .next (wrote (v - 1#16)))

/-! ## Rotates, shifts, bits -/

/-- RLCA, RRCA, RLA and RRA: A rotated, Z, N and HF cleared, CF the bit moved out (R270 to R273). -/
def Obligations.AccumulatorRotates : Prop :=
  ∀ s : State,
    let result (op : RotOp) : State :=
      { retired 1 4 s with
        regs := { s.regs with a := shifted op s.regs.a s.f.cf }
        f := { z := false, n := false, hf := false, cf := shiftedOut op s.regs.a } }
    (Encoded 0x07#8 1 (fun _ _ => .rlca) ∧ exec .rlca s = .next (result .rlc)) ∧
    (Encoded 0x0F#8 1 (fun _ _ => .rrca) ∧ exec .rrca s = .next (result .rrc)) ∧
    (Encoded 0x17#8 1 (fun _ _ => .rla) ∧ exec .rla s = .next (result .rl)) ∧
    (Encoded 0x1F#8 1 (fun _ _ => .rra) ∧ exec .rra s = .next (result .rr))

/-- RLC, RRC, RL and RR of the secondary table on a register and on the byte at HL, which is always written back (R275 to
R282). -/
def Obligations.SecondaryRotates : Prop :=
  ∀ (op : RotOp) (s : State), op = .rlc ∨ op = .rrc ∨ op = .rl ∨ op = .rr →
    let flags (v : Byte) : Flags :=
      { z := shifted op v s.f.cf == 0x00#8, n := false, hf := false, cf := shiftedOut op v }
    let p : Word := s.regs.h ++ s.regs.l
    (∀ t : Reg8,
      EncodedCb (0b00#2 ++ op.code ++ t.code) (Fam.rotR op t) ∧
      exec (Fam.rotR op t) s =
        .next { retired 2 8 s with
          regs := s.regs.set t (shifted op (s.regs.get t) s.f.cf), f := flags (s.regs.get t) }) ∧
    EncodedCb (0b00#2 ++ op.code ++ 0b110#3) (Fam.rotHl op) ∧
    exec (Fam.rotHl op) s =
      .next { writeByte (retired 2 16 s) p (shifted op (readByte s p) s.f.cf) with f := flags (readByte s p) }

/-- SLA, SRA, SWAP and SRL on a register and on the byte at HL, which is always written back (R283 to R290). -/
def Obligations.SecondaryShifts : Prop :=
  ∀ (op : RotOp) (s : State), op = .sla ∨ op = .sra ∨ op = .swap ∨ op = .srl →
    let flags (v : Byte) : Flags :=
      { z := shifted op v s.f.cf == 0x00#8, n := false, hf := false, cf := shiftedOut op v }
    let p : Word := s.regs.h ++ s.regs.l
    (∀ t : Reg8,
      EncodedCb (0b00#2 ++ op.code ++ t.code) (Fam.rotR op t) ∧
      exec (Fam.rotR op t) s =
        .next { retired 2 8 s with
          regs := s.regs.set t (shifted op (s.regs.get t) s.f.cf), f := flags (s.regs.get t) }) ∧
    EncodedCb (0b00#2 ++ op.code ++ 0b110#3) (Fam.rotHl op) ∧
    exec (Fam.rotHl op) s =
      .next { writeByte (retired 2 16 s) p (shifted op (readByte s p) s.f.cf) with f := flags (readByte s p) }

/-- RLC and RRC undo each other on the operand, RL and RR on operand and carry, SWAP undoes itself; nine RL or RR restore
operand and carry (R279, R281, R287, R297). -/
def Obligations.RotateLaws : Prop :=
  ∀ (t : Reg8) (s : State),
    let pair (i j : Instr) (same : State → Prop) : Prop :=
      ∃ u w, exec i s = .next u ∧ exec j u = .next w ∧ same w
    let nine (i : Instr) : Prop :=
      ∃ f : Nat → State, f 0 = s ∧ (∀ k, k < 9 → exec i (f k) = .next (f (k + 1))) ∧
        (f 9).regs = s.regs ∧ (f 9).f.cf = s.f.cf
    pair (Fam.rotR .rlc t) (Fam.rotR .rrc t) (fun w => w.regs = s.regs) ∧
    pair (Fam.rotR .rrc t) (Fam.rotR .rlc t) (fun w => w.regs = s.regs) ∧
    pair (Fam.rotR .rl t) (Fam.rotR .rr t) (fun w => w.regs = s.regs ∧ w.f.cf = s.f.cf) ∧
    pair (Fam.rotR .rr t) (Fam.rotR .rl t) (fun w => w.regs = s.regs ∧ w.f.cf = s.f.cf) ∧
    pair (Fam.rotR .swap t) (Fam.rotR .swap t) (fun w => w.regs = s.regs) ∧
    nine (Fam.rotR .rl t) ∧ nine (Fam.rotR .rr t)

/-- BIT tests one bit and writes Z, N and HF alone; RES clears and SET sets exactly the bit named, on a register or on the
byte at HL, and write no flag (R291 to R296). -/
def Obligations.BitInstructions : Prop :=
  ∀ (b : BitVec 3) (s : State),
    let p : Word := s.regs.h ++ s.regs.l
    let m : Byte := readByte s p
    let tested (v : Byte) : Flags := { z := !v.getLsbD b.toNat, n := false, hf := true, cf := s.f.cf }
    (∀ t : Reg8,
      EncodedCb (0b01#2 ++ b ++ t.code) (Fam.bitR b t) ∧
      exec (Fam.bitR b t) s = .next { retired 2 8 s with f := tested (s.regs.get t) }) ∧
    EncodedCb (0b01#2 ++ b ++ 0b110#3) (Fam.bitHl b) ∧
    exec (Fam.bitHl b) s = .next { retired 2 12 s with f := tested m } ∧
    (∀ t : Reg8,
      EncodedCb (0b10#2 ++ b ++ t.code) (Fam.resR b t) ∧
      ∃ w : Byte, (∀ k, k < 8 → w.getLsbD k = ((s.regs.get t).getLsbD k && k != b.toNat)) ∧
        exec (Fam.resR b t) s = .next { retired 2 8 s with regs := s.regs.set t w }) ∧
    (EncodedCb (0b10#2 ++ b ++ 0b110#3) (Fam.resHl b) ∧
      ∃ w : Byte, (∀ k, k < 8 → w.getLsbD k = (m.getLsbD k && k != b.toNat)) ∧
        exec (Fam.resHl b) s = .next (writeByte (retired 2 16 s) p w)) ∧
    (∀ t : Reg8,
      EncodedCb (0b11#2 ++ b ++ t.code) (Fam.setR b t) ∧
      ∃ w : Byte, (∀ k, k < 8 → w.getLsbD k = ((s.regs.get t).getLsbD k || k == b.toNat)) ∧
        exec (Fam.setR b t) s = .next { retired 2 8 s with regs := s.regs.set t w }) ∧
    (EncodedCb (0b11#2 ++ b ++ 0b110#3) (Fam.setHl b) ∧
      ∃ w : Byte, (∀ k, k < 8 → w.getLsbD k = (m.getLsbD k || k == b.toNat)) ∧
        exec (Fam.setHl b) s = .next (writeByte (retired 2 16 s) p w))

/-! ## Control flow -/

/-- JP, JP cc, JP HL, JR and JR cc: target, costs, nothing else (R300 to R304); the conditions (R146). -/
def Obligations.Jumps : Prop :=
  (∀ f : Flags, cond .nz f = !f.z ∧ cond .z f = f.z ∧ cond .nc f = !f.cf ∧ cond .c f = f.cf) ∧
  (∀ (a : Word) (s : State),
    Encoded 0xC3#8 3 (fun b1 b2 => .jpA16 (b2 ++ b1)) ∧
    exec (.jpA16 a) s = .next { retired 3 16 s with pc := a }) ∧
  (∀ (cc : Cond) (a : Word) (s : State),
    Encoded (0b110#3 ++ cc.code ++ 0b010#3) 3 (fun b1 b2 => Fam.jpCc cc (b2 ++ b1)) ∧
    exec (Fam.jpCc cc a) s =
      .next (if cond cc s.f then { retired 3 16 s with pc := a } else retired 3 12 s)) ∧
  (∀ s : State,
    Encoded 0xE9#8 1 (fun _ _ => .jpHl) ∧
    exec .jpHl s = .next { retired 1 4 s with pc := s.regs.h ++ s.regs.l }) ∧
  (∀ (e : Byte) (s : State),
    Encoded 0x18#8 2 (fun b1 _ => .jrE8 b1) ∧
    exec (.jrE8 e) s = .next { retired 2 12 s with pc := (retired 2 12 s).pc + e.signExtend 16 }) ∧
  (∀ (cc : Cond) (e : Byte) (s : State),
    Encoded (0b001#3 ++ cc.code ++ 0b000#3) 2 (fun b1 _ => Fam.jrCc cc b1) ∧
    exec (Fam.jrCc cc e) s =
      .next
        (if cond cc s.f then { retired 2 12 s with pc := (retired 2 12 s).pc + e.signExtend 16 } else retired 2 8 s))

/-- CALL, CALL cc and RST push the address of the following instruction and jump; a call not taken touches neither stack nor
SP (R305, R306, R310). -/
def Obligations.CallsAndRestarts : Prop :=
  (∀ (a : Word) (s : State),
    Encoded 0xCD#8 3 (fun b1 b2 => .callA16 (b2 ++ b1)) ∧
    exec (.callA16 a) s = .next { push16 (retired 3 24 s).pc (retired 3 24 s) with pc := a }) ∧
  (∀ (cc : Cond) (a : Word) (s : State),
    Encoded (0b110#3 ++ cc.code ++ 0b100#3) 3 (fun b1 b2 => Fam.callCc cc (b2 ++ b1)) ∧
    exec (Fam.callCc cc a) s =
      .next
        (if cond cc s.f then { push16 (retired 3 24 s).pc (retired 3 24 s) with pc := a } else retired 3 12 s)) ∧
  (∀ (t : BitVec 3) (s : State),
    Encoded (0b11#2 ++ t ++ 0b111#3) 1 (fun _ _ => Fam.rst t) ∧
    exec (Fam.rst t) s =
      .next { push16 (retired 1 16 s).pc (retired 1 16 s) with pc := BitVec.ofNat 16 (8 * t.toNat) })

/-- RET, RET cc and RETI pop PC; RETI sets the enable latch and leaves IME as any instruction does (R307 to R309). -/
def Obligations.Returns : Prop :=
  (∀ s : State,
    let target : Word := readByte s (s.sp + 1#16) ++ readByte s s.sp
    Encoded 0xC9#8 1 (fun _ _ => .ret) ∧
    exec .ret s = .next { retired 1 16 s with sp := s.sp + 2#16, pc := target }) ∧
  (∀ (cc : Cond) (s : State),
    let target : Word := readByte s (s.sp + 1#16) ++ readByte s s.sp
    Encoded (0b110#3 ++ cc.code ++ 0b000#3) 1 (fun _ _ => Fam.retCc cc) ∧
    exec (Fam.retCc cc) s =
      .next
        (if cond cc s.f then { retired 1 20 s with sp := s.sp + 2#16, pc := target } else retired 1 8 s)) ∧
  (∀ s : State,
    let target : Word := readByte s (s.sp + 1#16) ++ readByte s s.sp
    Encoded 0xD9#8 1 (fun _ _ => .reti) ∧
    exec .reti s =
      .next { retired 1 16 s with sp := s.sp + 2#16, pc := target, imePending := true })

/-! ## CPU control and interrupts -/

/-- NOP does nothing but retire; DI clears IME and cancels a pending enable; EI sets the enable latch and not IME (R320,
R325, R326). -/
def Obligations.NopDiEi : Prop :=
  ∀ s : State,
    (Encoded 0x00#8 1 (fun _ _ => .nop) ∧ exec .nop s = .next (retired 1 4 s)) ∧
    (Encoded 0xF3#8 1 (fun _ _ => .di) ∧ exec .di s = .next { retired 1 4 s with ime := false, imePending := false }) ∧
    (Encoded 0xFB#8 1 (fun _ _ => .ei) ∧ exec .ei s = .next { retired 1 4 s with imePending := true })

/-- HALT halts, unless the HALT bug is modelled, interrupts are and stay disabled, and one is pending: then it sets the
HALT-bug latch (R321, R323). -/
def Obligations.HaltInstruction : Prop :=
  ∀ s : State,
    Encoded 0x76#8 1 (fun _ _ => .halt) ∧
    exec .halt s =
      .next
        (if s.cfg.haltBug = true ∧ s.ime = false ∧ s.imePending = false ∧ s.ifr &&& s.ie.setWidth 5 ≠ 0#5 then
          { retired 1 4 s with haltBug := true }
        else { retired 1 4 s with halted := true })

/-- The prefix byte's handler does what the instruction of the secondary table does that its second byte selects; the decoder
gives that instruction (R150, R327; the term `prefixCb` itself is the model's, log 7). -/
def Obligations.PrefixByteDispatches : Prop :=
  ∀ (op2 b2 : Byte) (s : State),
    decodeBytes 0xCB#8 op2 b2 = decodeSecondary op2 ∧
    ∃ t, exec (.prefixCb op2) s = .next t ∧ exec (decodeSecondary op2) s = .next t ∧ t.fault = s.fault

/-- The interrupt step: nothing without a pending source; with one, a halt ends whatever IME is; with IME set, the lowest
pending source is dispatched: its request and IME cleared, PC pushed, PC at its vector, cost 20 (R353, R354, R359). -/
def Obligations.InterruptDispatch : Prop :=
  ∀ s : State,
    let isPending (j : Nat) : Prop := s.ifr.getLsbD j = true ∧ s.ie.getLsbD j = true
    ((∀ j, j < 5 → ¬ isPending j) → interruptStep s = (s, none)) ∧
    ((∃ j, j < 5 ∧ isPending j) → s.ime = false → interruptStep s = ({ s with halted := false }, none)) ∧
    (∀ i, i < 5 → isPending i → (∀ j, j < i → ¬ isPending j) → s.ime = true →
      interruptStep s =
        ({ push16 s.pc { s with halted := false, ifr := s.ifr &&& ~~~(1#5 <<< i), ime := false } with
            pc := BitVec.ofNat 16 (0x0040 + 8 * i) },
          some 20))

/-- The master-enable latch: what each event does to IME and `ime_pending` (R358). -/
def Obligations.EnableLatch : Prop :=
  (∀ p : Params, (State.init p).ime = false ∧ (State.init p).imePending = false) ∧
  (∀ (i : Instr) (s t : State), exec i s = .next t →
    if i = .ei ∨ i = .reti then t.ime = (s.ime || s.imePending) ∧ t.imePending = true
    else if i = .di then t.ime = false ∧ t.imePending = false
    else if raises i = true then t.ime = s.ime ∧ t.imePending = s.imePending
    else t.ime = (s.ime || s.imePending) ∧ t.imePending = false) ∧
  (∀ s : State,
    (interruptStep s).1.imePending = s.imePending ∧
    (interruptStep s).1.ime = (if (interruptStep s).2.isSome then false else s.ime)) ∧
  (∀ s t : State, s.fault = none → s.halted = true → pending (envNotify (timerTick 4 s)) = 0#5 → step s = .next t →
    t.ime = s.ime ∧ t.imePending = s.imePending)

/-! ## The timer and the collaborators -/

/-- The tick is the loop of R371, and ticks add up: no cycle is lost between two calls. -/
def Obligations.TimerTickLoop : Prop :=
  (∀ (c : Nat) (s : State),
    timerTick c s =
      if s.timer.tac.getLsbD 2 then
        timerLoop (s.timer.acc + c)
          { s with timer := { s.timer with div := s.timer.div + BitVec.ofNat 16 c, acc := s.timer.acc + c } }
      else { s with timer := { s.timer with div := s.timer.div + BitVec.ofNat 16 c } }) ∧
  (∀ s : State, s.timer.period = [1024, 16, 64, 256].getD (s.timer.tac.toNat % 4) 0) ∧
  (∀ (c d : Nat) (s : State), timerTick d (timerTick c s) = timerTick (c + d) s)

/-- With the 16-cycle period and an empty accumulator, 16 cycles move TIMA by one, and 16 × (256 − TIMA) cycles give exactly
one overflow, one reload and one request (R372). -/
def Obligations.TimerSixteenCyclePeriod : Prop :=
  ∀ s : State, s.timer.tac = 5#3 → s.timer.acc = 0 →
    (∀ k, k < 256 - s.timer.tima.toNat →
      timerTick (16 * k) s =
        { s with
          timer :=
            { s.timer with
              div := s.timer.div + BitVec.ofNat 16 (16 * k), tima := s.timer.tima + BitVec.ofNat 8 k } }) ∧
    timerTick (16 * (256 - s.timer.tima.toNat)) s =
      { s with
        timer :=
          { s.timer with
            div := s.timer.div + BitVec.ofNat 16 (16 * (256 - s.timer.tima.toNat)), tima := s.timer.tma }
        ifr := s.ifr ||| 0b00100#5 }

/-- The collaborators only add requests of sources 0, 1, 3 and 4 and change device-owned bytes; with the empty environment
the notification does nothing (R384 points 4 and 5; the list of answers is the model's, log 11). -/
def Obligations.NotificationScope : Prop :=
  ∀ s : State,
    let t := envNotify s
    t = { s with env := s.env.tail, ifr := t.ifr, io := t.io } ∧
    t.ifr &&& s.ifr = s.ifr ∧ t.ifr.getLsbD 2 = s.ifr.getLsbD 2 ∧
    (∀ k, k ∈ [0x04, 0x05, 0x06, 0x07, 0x0F, 0x46, 0x4F, 0x70] → t.io.read k = s.io.read k) ∧
    (s.env = [] → t = s)

/-! ## All instructions -/

/-- Every instruction leaves every byte of memory as it was except the bytes it stores to and what the side effect of such a
store reaches (R78, R79). -/
def Obligations.MemoryFrame : Prop :=
  ∀ (i : Instr) (s t : State) (a : Word), exec i s = .next t →
    (∀ x ∈ storedAt s i, touched s x a = false) → readByte t a = readByte s a

/-- Every instruction leaves alone the general registers, SP, the flags and the parts behind the bus that its rule does not
name, and the configuration and collaborators always (R21, R25, R27, R78). -/
def Obligations.RegisterFrame : Prop :=
  ∀ (i : Instr) (s t : State), exec i s = .next t →
    (∀ r : Reg8, r ∉ destRegs i → t.regs.get r = s.regs.get r) ∧
    (writesSp i = false → t.sp = s.sp) ∧
    (writesFlags i = false → t.f = s.f) ∧
    (storedAt s i = [] →
      t.ifr = s.ifr ∧ t.ie = s.ie ∧ t.timer = s.timer ∧ t.dma = s.dma ∧ t.vbk = s.vbk ∧ t.svbk = s.svbk ∧ t.io = s.io ∧
        t.vram = s.vram ∧ t.wram = s.wram ∧ t.oam = s.oam ∧ t.hram = s.hram ∧ t.cram = s.cram ∧ t.cart = s.cart) ∧
    (i ≠ .halt → t.halted = s.halted) ∧ (raises i = false → t.fault = s.fault) ∧
    t.cfg = s.cfg ∧ t.env = s.env ∧ t.cycles = s.cycles

/-- PC advances by the encoded length unless the instruction is a control transfer (one byte less while a HALT bug is
pending), and every reported cost is 4 to 24 and a multiple of 4 (R26, R140, R155). -/
def Obligations.AdvanceAndCost : Prop :=
  ∀ (i : Instr) (s t : State), exec i s = .next t → raises i = false →
    (transfers i = false → t.pc = s.pc + BitVec.ofNat 16 (if s.haltBug then i.length - 1 else i.length)) ∧
    t.cost % 4 = 0 ∧ 4 ≤ t.cost ∧ t.cost ≤ 24
end

