-- ==== Sys2Proof/Laws/Memory.lean ====
section
/-! SUPPORT. What the two operations on a store do: a write is seen at its own index and nowhere else, and it keeps the
canonical form and the size. -/

namespace Sys2Proof.Machine

@[simp] theorem Memory.read_nil (k : Nat) : Memory.read [] k = Memory.unlisted := rfl

@[simp] theorem Memory.wf_nil : Memory.wf [] = true := rfl

@[simp] theorem Memory.within_nil (n : Nat) : Memory.within n [] = true := rfl

/-- The canonical form of a store with a head, as propositions. -/
theorem Memory.wf_cons (j : Nat) (w : Byte) (m : Memory) :
    Memory.wf ((j, w) :: m) = true ↔
      w ≠ Memory.unlisted ∧ (∀ c ∈ m, j < c.1) ∧ Memory.wf m = true := by
  simp [Memory.wf, and_assoc]

/-- Every index listed lies below the size, as a proposition. -/
theorem Memory.within_iff (n : Nat) (m : Memory) : Memory.within n m = true ↔ ∀ c ∈ m, c.1 < n := by
  simp [Memory.within]

/-- The entries of `Memory.cons` are the new one and the old ones. -/
theorem Memory.mem_cons {k : Nat} {v : Byte} {m : Memory} {c : Host.Cell} (h : c ∈ Memory.cons k v m) :
    c = (k, v) ∨ c ∈ m := by
  unfold Memory.cons at h
  split at h
  · exact .inr h
  · simpa using h

/-- The entries of a written store are the new one and old ones. -/
theorem Memory.mem_write {m : Memory} {k : Nat} {v : Byte} {c : Host.Cell} (h : c ∈ Memory.write m k v) :
    c = (k, v) ∨ c ∈ m := by
  induction m with
  | nil => exact Memory.mem_cons h
  | cons a m ih =>
    obtain ⟨j, w⟩ := a
    unfold Memory.write at h
    split at h
    · rcases List.mem_cons.1 h with h | h
      · exact .inr (by simp [h])
      · exact (ih h).imp_right fun h => List.mem_cons_of_mem _ h
    · split at h
      · exact (Memory.mem_cons h).imp_right fun h => List.mem_cons_of_mem _ h
      · exact Memory.mem_cons h

/-- An index below every listed one reads as unlisted. -/
theorem Memory.read_of_lt {m : Memory} {k : Nat} (h : ∀ c ∈ m, k < c.1) : Memory.read m k = Memory.unlisted := by
  induction m with
  | nil => rfl
  | cons a m ih =>
    obtain ⟨j, w⟩ := a
    have hj : k < j := h (j, w) (by simp)
    rw [Memory.read, if_neg (by omega)]
    exact ih fun c hc => h c (List.mem_cons_of_mem _ hc)

/-- A byte in front of a canonical rest: what it reads as at its own index. -/
theorem Memory.read_cons_self {m : Memory} {k : Nat} (v : Byte) (h : ∀ c ∈ m, k < c.1) :
    Memory.read (Memory.cons k v m) k = v := by
  unfold Memory.cons
  split
  · next hv => rw [Memory.read_of_lt h, hv]
  · simp [Memory.read]

/-- A byte in front changes no other index. -/
theorem Memory.read_cons_ne {k j : Nat} (v : Byte) (m : Memory) (h : j ≠ k) :
    Memory.read (Memory.cons k v m) j = Memory.read m j := by
  unfold Memory.cons
  split
  · rfl
  · rw [Memory.read, if_neg (Ne.symm h)]

/-- A written byte is read back, from a store in canonical form. -/
theorem Memory.read_write_self {m : Memory} (hm : Memory.wf m = true) (k : Nat) (v : Byte) :
    Memory.read (Memory.write m k v) k = v := by
  induction m with
  | nil => exact Memory.read_cons_self v (by simp)
  | cons a m ih =>
    obtain ⟨j, w⟩ := a
    obtain ⟨-, hlt, hwf⟩ := (Memory.wf_cons j w m).1 hm
    rw [Memory.write]
    split
    · next h => rw [Memory.read, if_neg (by omega)]; exact ih hwf
    · split
      · next h => subst h; exact Memory.read_cons_self v hlt
      · next h1 h2 =>
        apply Memory.read_cons_self
        intro c hc
        rcases List.mem_cons.1 hc with rfl | hc
        · simp only; omega
        · have := hlt c hc; omega

/-- A write changes no other index. -/
theorem Memory.read_write_ne (m : Memory) {k j : Nat} (v : Byte) (h : j ≠ k) :
    Memory.read (Memory.write m k v) j = Memory.read m j := by
  induction m with
  | nil => exact Memory.read_cons_ne v [] h
  | cons a m ih =>
    obtain ⟨i, w⟩ := a
    rw [Memory.write]
    split
    · simp only [Memory.read, ih]
    · split
      · next h2 => rw [Memory.read_cons_ne v m h, Memory.read, if_neg (by omega)]
      · exact Memory.read_cons_ne v _ h

/-- A write keeps the canonical form. -/
theorem Memory.wf_write {m : Memory} (hm : Memory.wf m = true) (k : Nat) (v : Byte) :
    Memory.wf (Memory.write m k v) = true := by
  have front : ∀ m : Memory, Memory.wf m = true → (∀ c ∈ m, k < c.1) → Memory.wf (Memory.cons k v m) = true := by
    intro m hm hlt
    unfold Memory.cons
    split
    · exact hm
    · next hv => exact (Memory.wf_cons k v m).2 ⟨hv, hlt, hm⟩
  induction m with
  | nil => exact front [] rfl (by simp)
  | cons a m ih =>
    obtain ⟨j, w⟩ := a
    obtain ⟨hw, hlt, hwf⟩ := (Memory.wf_cons j w m).1 hm
    rw [Memory.write]
    split
    · next h =>
      refine (Memory.wf_cons _ _ _).2 ⟨hw, fun c hc => ?_, ih hwf⟩
      rcases Memory.mem_write hc with rfl | hc
      · exact h
      · exact hlt c hc
    · split
      · next h => exact front m hwf (h ▸ hlt)
      · refine front _ hm fun c hc => ?_
        rcases List.mem_cons.1 hc with rfl | hc
        · simp only; omega
        · have := hlt c hc; omega

/-- A write below the size keeps the size. -/
theorem Memory.within_write {n : Nat} {m : Memory} (hm : Memory.within n m = true) {k : Nat} (hk : k < n) (v : Byte) :
    Memory.within n (Memory.write m k v) = true := by
  rw [Memory.within_iff] at *
  intro c hc
  rcases Memory.mem_write hc with rfl | hc
  · exact hk
  · exact hm c hc

/-- A property of every listed index is kept by a write at an index that has it. -/
theorem Memory.all_write {p : Host.Cell → Bool} {m : Memory} (hm : m.all p = true) {k : Nat} {v : Byte} (hk : p (k, v) = true) :
    (Memory.write m k v).all p = true := by
  rw [List.all_eq_true] at *
  intro c hc
  rcases Memory.mem_write hc with rfl | hc
  · exact hk
  · exact hm c hc

/-- Writing what a byte already reads as changes nothing, in a store in canonical form. -/
theorem Memory.write_read {m : Memory} (hm : Memory.wf m = true) (k : Nat) :
    Memory.write m k (Memory.read m k) = m := by
  induction m with
  | nil => simp [Memory.write, Memory.read, Memory.cons]
  | cons a m ih =>
    obtain ⟨j, w⟩ := a
    obtain ⟨hw, hlt, hwf⟩ := (Memory.wf_cons j w m).1 hm
    rw [Memory.write, Memory.read]
    by_cases hjk : j = k
    · subst hjk
      simp [Memory.cons, hw]
    · simp only [if_neg hjk]
      split
      · rw [ih hwf]
      · have : Memory.read m k = Memory.unlisted := Memory.read_of_lt fun c hc => by have := hlt c hc; omega
        simp [Memory.cons, this]

end Sys2Proof.Machine
end

