-- ==== Sys2Proof/Laws/State.lean ====
section
/-! SUPPORT. One lemma for each field of `State` and each named update of it: what the field is afterwards. All hold by
definition, so that no later proof unfolds a record update. -/

namespace Sys2Proof.Machine

@[simp] theorem beginStep_regs (len : Nat) (s : State) : (beginStep len s).regs = s.regs := rfl
@[simp] theorem beginStep_f (len : Nat) (s : State) : (beginStep len s).f = s.f := rfl
@[simp] theorem beginStep_sp (len : Nat) (s : State) : (beginStep len s).sp = s.sp := rfl
@[simp] theorem beginStep_pc (len : Nat) (s : State) : (beginStep len s).pc = pcAfter s len := rfl
@[simp] theorem beginStep_ime (len : Nat) (s : State) : (beginStep len s).ime = s.ime := rfl
@[simp] theorem beginStep_imePending (len : Nat) (s : State) : (beginStep len s).imePending = false := rfl
@[simp] theorem beginStep_halted (len : Nat) (s : State) : (beginStep len s).halted = s.halted := rfl
@[simp] theorem beginStep_haltBug (len : Nat) (s : State) : (beginStep len s).haltBug = false := rfl
@[simp] theorem beginStep_fault (len : Nat) (s : State) : (beginStep len s).fault = s.fault := rfl
@[simp] theorem beginStep_ifr (len : Nat) (s : State) : (beginStep len s).ifr = s.ifr := rfl
@[simp] theorem beginStep_ie (len : Nat) (s : State) : (beginStep len s).ie = s.ie := rfl
@[simp] theorem beginStep_timer (len : Nat) (s : State) : (beginStep len s).timer = s.timer := rfl
@[simp] theorem beginStep_dma (len : Nat) (s : State) : (beginStep len s).dma = s.dma := rfl
@[simp] theorem beginStep_vbk (len : Nat) (s : State) : (beginStep len s).vbk = s.vbk := rfl
@[simp] theorem beginStep_svbk (len : Nat) (s : State) : (beginStep len s).svbk = s.svbk := rfl
@[simp] theorem beginStep_io (len : Nat) (s : State) : (beginStep len s).io = s.io := rfl
@[simp] theorem beginStep_vram (len : Nat) (s : State) : (beginStep len s).vram = s.vram := rfl
@[simp] theorem beginStep_wram (len : Nat) (s : State) : (beginStep len s).wram = s.wram := rfl
@[simp] theorem beginStep_oam (len : Nat) (s : State) : (beginStep len s).oam = s.oam := rfl
@[simp] theorem beginStep_hram (len : Nat) (s : State) : (beginStep len s).hram = s.hram := rfl
@[simp] theorem beginStep_cram (len : Nat) (s : State) : (beginStep len s).cram = s.cram := rfl
@[simp] theorem beginStep_cart (len : Nat) (s : State) : (beginStep len s).cart = s.cart := rfl
@[simp] theorem beginStep_cfg (len : Nat) (s : State) : (beginStep len s).cfg = s.cfg := rfl
@[simp] theorem beginStep_env (len : Nat) (s : State) : (beginStep len s).env = s.env := rfl
@[simp] theorem beginStep_cost (len : Nat) (s : State) : (beginStep len s).cost = s.cost := rfl
@[simp] theorem beginStep_cycles (len : Nat) (s : State) : (beginStep len s).cycles = s.cycles := rfl

@[simp] theorem finishStep_regs (p : Bool) (k : Nat) (s : State) : (finishStep p k s).regs = s.regs := rfl
@[simp] theorem finishStep_f (p : Bool) (k : Nat) (s : State) : (finishStep p k s).f = s.f := rfl
@[simp] theorem finishStep_sp (p : Bool) (k : Nat) (s : State) : (finishStep p k s).sp = s.sp := rfl
@[simp] theorem finishStep_pc (p : Bool) (k : Nat) (s : State) : (finishStep p k s).pc = s.pc := rfl
@[simp] theorem finishStep_ime (p : Bool) (k : Nat) (s : State) : (finishStep p k s).ime = (s.ime || p) := rfl
@[simp] theorem finishStep_imePending (p : Bool) (k : Nat) (s : State) : (finishStep p k s).imePending = s.imePending := rfl
@[simp] theorem finishStep_halted (p : Bool) (k : Nat) (s : State) : (finishStep p k s).halted = s.halted := rfl
@[simp] theorem finishStep_haltBug (p : Bool) (k : Nat) (s : State) : (finishStep p k s).haltBug = s.haltBug := rfl
@[simp] theorem finishStep_fault (p : Bool) (k : Nat) (s : State) : (finishStep p k s).fault = s.fault := rfl
@[simp] theorem finishStep_ifr (p : Bool) (k : Nat) (s : State) : (finishStep p k s).ifr = s.ifr := rfl
@[simp] theorem finishStep_ie (p : Bool) (k : Nat) (s : State) : (finishStep p k s).ie = s.ie := rfl
@[simp] theorem finishStep_timer (p : Bool) (k : Nat) (s : State) : (finishStep p k s).timer = s.timer := rfl
@[simp] theorem finishStep_dma (p : Bool) (k : Nat) (s : State) : (finishStep p k s).dma = s.dma := rfl
@[simp] theorem finishStep_vbk (p : Bool) (k : Nat) (s : State) : (finishStep p k s).vbk = s.vbk := rfl
@[simp] theorem finishStep_svbk (p : Bool) (k : Nat) (s : State) : (finishStep p k s).svbk = s.svbk := rfl
@[simp] theorem finishStep_io (p : Bool) (k : Nat) (s : State) : (finishStep p k s).io = s.io := rfl
@[simp] theorem finishStep_vram (p : Bool) (k : Nat) (s : State) : (finishStep p k s).vram = s.vram := rfl
@[simp] theorem finishStep_wram (p : Bool) (k : Nat) (s : State) : (finishStep p k s).wram = s.wram := rfl
@[simp] theorem finishStep_oam (p : Bool) (k : Nat) (s : State) : (finishStep p k s).oam = s.oam := rfl
@[simp] theorem finishStep_hram (p : Bool) (k : Nat) (s : State) : (finishStep p k s).hram = s.hram := rfl
@[simp] theorem finishStep_cram (p : Bool) (k : Nat) (s : State) : (finishStep p k s).cram = s.cram := rfl
@[simp] theorem finishStep_cart (p : Bool) (k : Nat) (s : State) : (finishStep p k s).cart = s.cart := rfl
@[simp] theorem finishStep_cfg (p : Bool) (k : Nat) (s : State) : (finishStep p k s).cfg = s.cfg := rfl
@[simp] theorem finishStep_env (p : Bool) (k : Nat) (s : State) : (finishStep p k s).env = s.env := rfl
@[simp] theorem finishStep_cost (p : Bool) (k : Nat) (s : State) : (finishStep p k s).cost = k := rfl
@[simp] theorem finishStep_cycles (p : Bool) (k : Nat) (s : State) : (finishStep p k s).cycles = s.cycles := rfl

@[simp] theorem retired_regs (len k : Nat) (s : State) : (retired len k s).regs = s.regs := rfl
@[simp] theorem retired_f (len k : Nat) (s : State) : (retired len k s).f = s.f := rfl
@[simp] theorem retired_sp (len k : Nat) (s : State) : (retired len k s).sp = s.sp := rfl
@[simp] theorem retired_pc (len k : Nat) (s : State) : (retired len k s).pc = pcAfter s len := rfl
@[simp] theorem retired_ime (len k : Nat) (s : State) : (retired len k s).ime = (s.ime || s.imePending) := rfl
@[simp] theorem retired_imePending (len k : Nat) (s : State) : (retired len k s).imePending = false := rfl
@[simp] theorem retired_halted (len k : Nat) (s : State) : (retired len k s).halted = s.halted := rfl
@[simp] theorem retired_haltBug (len k : Nat) (s : State) : (retired len k s).haltBug = false := rfl
@[simp] theorem retired_fault (len k : Nat) (s : State) : (retired len k s).fault = s.fault := rfl
@[simp] theorem retired_ifr (len k : Nat) (s : State) : (retired len k s).ifr = s.ifr := rfl
@[simp] theorem retired_ie (len k : Nat) (s : State) : (retired len k s).ie = s.ie := rfl
@[simp] theorem retired_timer (len k : Nat) (s : State) : (retired len k s).timer = s.timer := rfl
@[simp] theorem retired_dma (len k : Nat) (s : State) : (retired len k s).dma = s.dma := rfl
@[simp] theorem retired_vbk (len k : Nat) (s : State) : (retired len k s).vbk = s.vbk := rfl
@[simp] theorem retired_svbk (len k : Nat) (s : State) : (retired len k s).svbk = s.svbk := rfl
@[simp] theorem retired_io (len k : Nat) (s : State) : (retired len k s).io = s.io := rfl
@[simp] theorem retired_vram (len k : Nat) (s : State) : (retired len k s).vram = s.vram := rfl
@[simp] theorem retired_wram (len k : Nat) (s : State) : (retired len k s).wram = s.wram := rfl
@[simp] theorem retired_oam (len k : Nat) (s : State) : (retired len k s).oam = s.oam := rfl
@[simp] theorem retired_hram (len k : Nat) (s : State) : (retired len k s).hram = s.hram := rfl
@[simp] theorem retired_cram (len k : Nat) (s : State) : (retired len k s).cram = s.cram := rfl
@[simp] theorem retired_cart (len k : Nat) (s : State) : (retired len k s).cart = s.cart := rfl
@[simp] theorem retired_cfg (len k : Nat) (s : State) : (retired len k s).cfg = s.cfg := rfl
@[simp] theorem retired_env (len k : Nat) (s : State) : (retired len k s).env = s.env := rfl
@[simp] theorem retired_cost (len k : Nat) (s : State) : (retired len k s).cost = k := rfl
@[simp] theorem retired_cycles (len k : Nat) (s : State) : (retired len k s).cycles = s.cycles := rfl

@[simp] theorem setR8_regs (r : Reg8) (v : Byte) (s : State) : (setR8 r v s).regs = s.regs.set r v := rfl
@[simp] theorem setR8_f (r : Reg8) (v : Byte) (s : State) : (setR8 r v s).f = s.f := rfl
@[simp] theorem setR8_sp (r : Reg8) (v : Byte) (s : State) : (setR8 r v s).sp = s.sp := rfl
@[simp] theorem setR8_pc (r : Reg8) (v : Byte) (s : State) : (setR8 r v s).pc = s.pc := rfl
@[simp] theorem setR8_ime (r : Reg8) (v : Byte) (s : State) : (setR8 r v s).ime = s.ime := rfl
@[simp] theorem setR8_imePending (r : Reg8) (v : Byte) (s : State) : (setR8 r v s).imePending = s.imePending := rfl
@[simp] theorem setR8_halted (r : Reg8) (v : Byte) (s : State) : (setR8 r v s).halted = s.halted := rfl
@[simp] theorem setR8_haltBug (r : Reg8) (v : Byte) (s : State) : (setR8 r v s).haltBug = s.haltBug := rfl
@[simp] theorem setR8_fault (r : Reg8) (v : Byte) (s : State) : (setR8 r v s).fault = s.fault := rfl
@[simp] theorem setR8_ifr (r : Reg8) (v : Byte) (s : State) : (setR8 r v s).ifr = s.ifr := rfl
@[simp] theorem setR8_ie (r : Reg8) (v : Byte) (s : State) : (setR8 r v s).ie = s.ie := rfl
@[simp] theorem setR8_timer (r : Reg8) (v : Byte) (s : State) : (setR8 r v s).timer = s.timer := rfl
@[simp] theorem setR8_dma (r : Reg8) (v : Byte) (s : State) : (setR8 r v s).dma = s.dma := rfl
@[simp] theorem setR8_vbk (r : Reg8) (v : Byte) (s : State) : (setR8 r v s).vbk = s.vbk := rfl
@[simp] theorem setR8_svbk (r : Reg8) (v : Byte) (s : State) : (setR8 r v s).svbk = s.svbk := rfl
@[simp] theorem setR8_io (r : Reg8) (v : Byte) (s : State) : (setR8 r v s).io = s.io := rfl
@[simp] theorem setR8_vram (r : Reg8) (v : Byte) (s : State) : (setR8 r v s).vram = s.vram := rfl
@[simp] theorem setR8_wram (r : Reg8) (v : Byte) (s : State) : (setR8 r v s).wram = s.wram := rfl
@[simp] theorem setR8_oam (r : Reg8) (v : Byte) (s : State) : (setR8 r v s).oam = s.oam := rfl
@[simp] theorem setR8_hram (r : Reg8) (v : Byte) (s : State) : (setR8 r v s).hram = s.hram := rfl
@[simp] theorem setR8_cram (r : Reg8) (v : Byte) (s : State) : (setR8 r v s).cram = s.cram := rfl
@[simp] theorem setR8_cart (r : Reg8) (v : Byte) (s : State) : (setR8 r v s).cart = s.cart := rfl
@[simp] theorem setR8_cfg (r : Reg8) (v : Byte) (s : State) : (setR8 r v s).cfg = s.cfg := rfl
@[simp] theorem setR8_env (r : Reg8) (v : Byte) (s : State) : (setR8 r v s).env = s.env := rfl
@[simp] theorem setR8_cost (r : Reg8) (v : Byte) (s : State) : (setR8 r v s).cost = s.cost := rfl
@[simp] theorem setR8_cycles (r : Reg8) (v : Byte) (s : State) : (setR8 r v s).cycles = s.cycles := rfl

@[simp] theorem setHl_regs (v : Word) (s : State) : (setHl v s).regs = { s.regs with h := hi v, l := lo v } := rfl
@[simp] theorem setHl_f (v : Word) (s : State) : (setHl v s).f = s.f := rfl
@[simp] theorem setHl_sp (v : Word) (s : State) : (setHl v s).sp = s.sp := rfl
@[simp] theorem setHl_pc (v : Word) (s : State) : (setHl v s).pc = s.pc := rfl
@[simp] theorem setHl_ime (v : Word) (s : State) : (setHl v s).ime = s.ime := rfl
@[simp] theorem setHl_imePending (v : Word) (s : State) : (setHl v s).imePending = s.imePending := rfl
@[simp] theorem setHl_halted (v : Word) (s : State) : (setHl v s).halted = s.halted := rfl
@[simp] theorem setHl_haltBug (v : Word) (s : State) : (setHl v s).haltBug = s.haltBug := rfl
@[simp] theorem setHl_fault (v : Word) (s : State) : (setHl v s).fault = s.fault := rfl
@[simp] theorem setHl_ifr (v : Word) (s : State) : (setHl v s).ifr = s.ifr := rfl
@[simp] theorem setHl_ie (v : Word) (s : State) : (setHl v s).ie = s.ie := rfl
@[simp] theorem setHl_timer (v : Word) (s : State) : (setHl v s).timer = s.timer := rfl
@[simp] theorem setHl_dma (v : Word) (s : State) : (setHl v s).dma = s.dma := rfl
@[simp] theorem setHl_vbk (v : Word) (s : State) : (setHl v s).vbk = s.vbk := rfl
@[simp] theorem setHl_svbk (v : Word) (s : State) : (setHl v s).svbk = s.svbk := rfl
@[simp] theorem setHl_io (v : Word) (s : State) : (setHl v s).io = s.io := rfl
@[simp] theorem setHl_vram (v : Word) (s : State) : (setHl v s).vram = s.vram := rfl
@[simp] theorem setHl_wram (v : Word) (s : State) : (setHl v s).wram = s.wram := rfl
@[simp] theorem setHl_oam (v : Word) (s : State) : (setHl v s).oam = s.oam := rfl
@[simp] theorem setHl_hram (v : Word) (s : State) : (setHl v s).hram = s.hram := rfl
@[simp] theorem setHl_cram (v : Word) (s : State) : (setHl v s).cram = s.cram := rfl
@[simp] theorem setHl_cart (v : Word) (s : State) : (setHl v s).cart = s.cart := rfl
@[simp] theorem setHl_cfg (v : Word) (s : State) : (setHl v s).cfg = s.cfg := rfl
@[simp] theorem setHl_env (v : Word) (s : State) : (setHl v s).env = s.env := rfl
@[simp] theorem setHl_cost (v : Word) (s : State) : (setHl v s).cost = s.cost := rfl
@[simp] theorem setHl_cycles (v : Word) (s : State) : (setHl v s).cycles = s.cycles := rfl

@[simp] theorem setBc_regs (v : Word) (s : State) : (setBc v s).regs = { s.regs with b := hi v, c := lo v } := rfl
@[simp] theorem setBc_f (v : Word) (s : State) : (setBc v s).f = s.f := rfl
@[simp] theorem setBc_sp (v : Word) (s : State) : (setBc v s).sp = s.sp := rfl
@[simp] theorem setBc_pc (v : Word) (s : State) : (setBc v s).pc = s.pc := rfl
@[simp] theorem setBc_ime (v : Word) (s : State) : (setBc v s).ime = s.ime := rfl
@[simp] theorem setBc_imePending (v : Word) (s : State) : (setBc v s).imePending = s.imePending := rfl
@[simp] theorem setBc_halted (v : Word) (s : State) : (setBc v s).halted = s.halted := rfl
@[simp] theorem setBc_haltBug (v : Word) (s : State) : (setBc v s).haltBug = s.haltBug := rfl
@[simp] theorem setBc_fault (v : Word) (s : State) : (setBc v s).fault = s.fault := rfl
@[simp] theorem setBc_ifr (v : Word) (s : State) : (setBc v s).ifr = s.ifr := rfl
@[simp] theorem setBc_ie (v : Word) (s : State) : (setBc v s).ie = s.ie := rfl
@[simp] theorem setBc_timer (v : Word) (s : State) : (setBc v s).timer = s.timer := rfl
@[simp] theorem setBc_dma (v : Word) (s : State) : (setBc v s).dma = s.dma := rfl
@[simp] theorem setBc_vbk (v : Word) (s : State) : (setBc v s).vbk = s.vbk := rfl
@[simp] theorem setBc_svbk (v : Word) (s : State) : (setBc v s).svbk = s.svbk := rfl
@[simp] theorem setBc_io (v : Word) (s : State) : (setBc v s).io = s.io := rfl
@[simp] theorem setBc_vram (v : Word) (s : State) : (setBc v s).vram = s.vram := rfl
@[simp] theorem setBc_wram (v : Word) (s : State) : (setBc v s).wram = s.wram := rfl
@[simp] theorem setBc_oam (v : Word) (s : State) : (setBc v s).oam = s.oam := rfl
@[simp] theorem setBc_hram (v : Word) (s : State) : (setBc v s).hram = s.hram := rfl
@[simp] theorem setBc_cram (v : Word) (s : State) : (setBc v s).cram = s.cram := rfl
@[simp] theorem setBc_cart (v : Word) (s : State) : (setBc v s).cart = s.cart := rfl
@[simp] theorem setBc_cfg (v : Word) (s : State) : (setBc v s).cfg = s.cfg := rfl
@[simp] theorem setBc_env (v : Word) (s : State) : (setBc v s).env = s.env := rfl
@[simp] theorem setBc_cost (v : Word) (s : State) : (setBc v s).cost = s.cost := rfl
@[simp] theorem setBc_cycles (v : Word) (s : State) : (setBc v s).cycles = s.cycles := rfl

@[simp] theorem setDe_regs (v : Word) (s : State) : (setDe v s).regs = { s.regs with d := hi v, e := lo v } := rfl
@[simp] theorem setDe_f (v : Word) (s : State) : (setDe v s).f = s.f := rfl
@[simp] theorem setDe_sp (v : Word) (s : State) : (setDe v s).sp = s.sp := rfl
@[simp] theorem setDe_pc (v : Word) (s : State) : (setDe v s).pc = s.pc := rfl
@[simp] theorem setDe_ime (v : Word) (s : State) : (setDe v s).ime = s.ime := rfl
@[simp] theorem setDe_imePending (v : Word) (s : State) : (setDe v s).imePending = s.imePending := rfl
@[simp] theorem setDe_halted (v : Word) (s : State) : (setDe v s).halted = s.halted := rfl
@[simp] theorem setDe_haltBug (v : Word) (s : State) : (setDe v s).haltBug = s.haltBug := rfl
@[simp] theorem setDe_fault (v : Word) (s : State) : (setDe v s).fault = s.fault := rfl
@[simp] theorem setDe_ifr (v : Word) (s : State) : (setDe v s).ifr = s.ifr := rfl
@[simp] theorem setDe_ie (v : Word) (s : State) : (setDe v s).ie = s.ie := rfl
@[simp] theorem setDe_timer (v : Word) (s : State) : (setDe v s).timer = s.timer := rfl
@[simp] theorem setDe_dma (v : Word) (s : State) : (setDe v s).dma = s.dma := rfl
@[simp] theorem setDe_vbk (v : Word) (s : State) : (setDe v s).vbk = s.vbk := rfl
@[simp] theorem setDe_svbk (v : Word) (s : State) : (setDe v s).svbk = s.svbk := rfl
@[simp] theorem setDe_io (v : Word) (s : State) : (setDe v s).io = s.io := rfl
@[simp] theorem setDe_vram (v : Word) (s : State) : (setDe v s).vram = s.vram := rfl
@[simp] theorem setDe_wram (v : Word) (s : State) : (setDe v s).wram = s.wram := rfl
@[simp] theorem setDe_oam (v : Word) (s : State) : (setDe v s).oam = s.oam := rfl
@[simp] theorem setDe_hram (v : Word) (s : State) : (setDe v s).hram = s.hram := rfl
@[simp] theorem setDe_cram (v : Word) (s : State) : (setDe v s).cram = s.cram := rfl
@[simp] theorem setDe_cart (v : Word) (s : State) : (setDe v s).cart = s.cart := rfl
@[simp] theorem setDe_cfg (v : Word) (s : State) : (setDe v s).cfg = s.cfg := rfl
@[simp] theorem setDe_env (v : Word) (s : State) : (setDe v s).env = s.env := rfl
@[simp] theorem setDe_cost (v : Word) (s : State) : (setDe v s).cost = s.cost := rfl
@[simp] theorem setDe_cycles (v : Word) (s : State) : (setDe v s).cycles = s.cycles := rfl

@[simp] theorem setAf_regs (v : Word) (s : State) : (setAf v s).regs = { s.regs with a := hi v } := rfl
@[simp] theorem setAf_f (v : Word) (s : State) : (setAf v s).f = Flags.ofByte (lo v) := rfl
@[simp] theorem setAf_sp (v : Word) (s : State) : (setAf v s).sp = s.sp := rfl
@[simp] theorem setAf_pc (v : Word) (s : State) : (setAf v s).pc = s.pc := rfl
@[simp] theorem setAf_ime (v : Word) (s : State) : (setAf v s).ime = s.ime := rfl
@[simp] theorem setAf_imePending (v : Word) (s : State) : (setAf v s).imePending = s.imePending := rfl
@[simp] theorem setAf_halted (v : Word) (s : State) : (setAf v s).halted = s.halted := rfl
@[simp] theorem setAf_haltBug (v : Word) (s : State) : (setAf v s).haltBug = s.haltBug := rfl
@[simp] theorem setAf_fault (v : Word) (s : State) : (setAf v s).fault = s.fault := rfl
@[simp] theorem setAf_ifr (v : Word) (s : State) : (setAf v s).ifr = s.ifr := rfl
@[simp] theorem setAf_ie (v : Word) (s : State) : (setAf v s).ie = s.ie := rfl
@[simp] theorem setAf_timer (v : Word) (s : State) : (setAf v s).timer = s.timer := rfl
@[simp] theorem setAf_dma (v : Word) (s : State) : (setAf v s).dma = s.dma := rfl
@[simp] theorem setAf_vbk (v : Word) (s : State) : (setAf v s).vbk = s.vbk := rfl
@[simp] theorem setAf_svbk (v : Word) (s : State) : (setAf v s).svbk = s.svbk := rfl
@[simp] theorem setAf_io (v : Word) (s : State) : (setAf v s).io = s.io := rfl
@[simp] theorem setAf_vram (v : Word) (s : State) : (setAf v s).vram = s.vram := rfl
@[simp] theorem setAf_wram (v : Word) (s : State) : (setAf v s).wram = s.wram := rfl
@[simp] theorem setAf_oam (v : Word) (s : State) : (setAf v s).oam = s.oam := rfl
@[simp] theorem setAf_hram (v : Word) (s : State) : (setAf v s).hram = s.hram := rfl
@[simp] theorem setAf_cram (v : Word) (s : State) : (setAf v s).cram = s.cram := rfl
@[simp] theorem setAf_cart (v : Word) (s : State) : (setAf v s).cart = s.cart := rfl
@[simp] theorem setAf_cfg (v : Word) (s : State) : (setAf v s).cfg = s.cfg := rfl
@[simp] theorem setAf_env (v : Word) (s : State) : (setAf v s).env = s.env := rfl
@[simp] theorem setAf_cost (v : Word) (s : State) : (setAf v s).cost = s.cost := rfl
@[simp] theorem setAf_cycles (v : Word) (s : State) : (setAf v s).cycles = s.cycles := rfl

@[simp] theorem setAF8_regs (r : Byte × Flags) (s : State) : (setAF8 r s).regs = { s.regs with a := r.1 } := rfl
@[simp] theorem setAF8_f (r : Byte × Flags) (s : State) : (setAF8 r s).f = r.2 := rfl
@[simp] theorem setAF8_sp (r : Byte × Flags) (s : State) : (setAF8 r s).sp = s.sp := rfl
@[simp] theorem setAF8_pc (r : Byte × Flags) (s : State) : (setAF8 r s).pc = s.pc := rfl
@[simp] theorem setAF8_ime (r : Byte × Flags) (s : State) : (setAF8 r s).ime = s.ime := rfl
@[simp] theorem setAF8_imePending (r : Byte × Flags) (s : State) : (setAF8 r s).imePending = s.imePending := rfl
@[simp] theorem setAF8_halted (r : Byte × Flags) (s : State) : (setAF8 r s).halted = s.halted := rfl
@[simp] theorem setAF8_haltBug (r : Byte × Flags) (s : State) : (setAF8 r s).haltBug = s.haltBug := rfl
@[simp] theorem setAF8_fault (r : Byte × Flags) (s : State) : (setAF8 r s).fault = s.fault := rfl
@[simp] theorem setAF8_ifr (r : Byte × Flags) (s : State) : (setAF8 r s).ifr = s.ifr := rfl
@[simp] theorem setAF8_ie (r : Byte × Flags) (s : State) : (setAF8 r s).ie = s.ie := rfl
@[simp] theorem setAF8_timer (r : Byte × Flags) (s : State) : (setAF8 r s).timer = s.timer := rfl
@[simp] theorem setAF8_dma (r : Byte × Flags) (s : State) : (setAF8 r s).dma = s.dma := rfl
@[simp] theorem setAF8_vbk (r : Byte × Flags) (s : State) : (setAF8 r s).vbk = s.vbk := rfl
@[simp] theorem setAF8_svbk (r : Byte × Flags) (s : State) : (setAF8 r s).svbk = s.svbk := rfl
@[simp] theorem setAF8_io (r : Byte × Flags) (s : State) : (setAF8 r s).io = s.io := rfl
@[simp] theorem setAF8_vram (r : Byte × Flags) (s : State) : (setAF8 r s).vram = s.vram := rfl
@[simp] theorem setAF8_wram (r : Byte × Flags) (s : State) : (setAF8 r s).wram = s.wram := rfl
@[simp] theorem setAF8_oam (r : Byte × Flags) (s : State) : (setAF8 r s).oam = s.oam := rfl
@[simp] theorem setAF8_hram (r : Byte × Flags) (s : State) : (setAF8 r s).hram = s.hram := rfl
@[simp] theorem setAF8_cram (r : Byte × Flags) (s : State) : (setAF8 r s).cram = s.cram := rfl
@[simp] theorem setAF8_cart (r : Byte × Flags) (s : State) : (setAF8 r s).cart = s.cart := rfl
@[simp] theorem setAF8_cfg (r : Byte × Flags) (s : State) : (setAF8 r s).cfg = s.cfg := rfl
@[simp] theorem setAF8_env (r : Byte × Flags) (s : State) : (setAF8 r s).env = s.env := rfl
@[simp] theorem setAF8_cost (r : Byte × Flags) (s : State) : (setAF8 r s).cost = s.cost := rfl
@[simp] theorem setAF8_cycles (r : Byte × Flags) (s : State) : (setAF8 r s).cycles = s.cycles := rfl

@[simp] theorem setR8F_regs (rd : Reg8) (r : Byte × Flags) (s : State) : (setR8F rd r s).regs = s.regs.set rd r.1 := rfl
@[simp] theorem setR8F_f (rd : Reg8) (r : Byte × Flags) (s : State) : (setR8F rd r s).f = r.2 := rfl
@[simp] theorem setR8F_sp (rd : Reg8) (r : Byte × Flags) (s : State) : (setR8F rd r s).sp = s.sp := rfl
@[simp] theorem setR8F_pc (rd : Reg8) (r : Byte × Flags) (s : State) : (setR8F rd r s).pc = s.pc := rfl
@[simp] theorem setR8F_ime (rd : Reg8) (r : Byte × Flags) (s : State) : (setR8F rd r s).ime = s.ime := rfl
@[simp] theorem setR8F_imePending (rd : Reg8) (r : Byte × Flags) (s : State) : (setR8F rd r s).imePending = s.imePending := rfl
@[simp] theorem setR8F_halted (rd : Reg8) (r : Byte × Flags) (s : State) : (setR8F rd r s).halted = s.halted := rfl
@[simp] theorem setR8F_haltBug (rd : Reg8) (r : Byte × Flags) (s : State) : (setR8F rd r s).haltBug = s.haltBug := rfl
@[simp] theorem setR8F_fault (rd : Reg8) (r : Byte × Flags) (s : State) : (setR8F rd r s).fault = s.fault := rfl
@[simp] theorem setR8F_ifr (rd : Reg8) (r : Byte × Flags) (s : State) : (setR8F rd r s).ifr = s.ifr := rfl
@[simp] theorem setR8F_ie (rd : Reg8) (r : Byte × Flags) (s : State) : (setR8F rd r s).ie = s.ie := rfl
@[simp] theorem setR8F_timer (rd : Reg8) (r : Byte × Flags) (s : State) : (setR8F rd r s).timer = s.timer := rfl
@[simp] theorem setR8F_dma (rd : Reg8) (r : Byte × Flags) (s : State) : (setR8F rd r s).dma = s.dma := rfl
@[simp] theorem setR8F_vbk (rd : Reg8) (r : Byte × Flags) (s : State) : (setR8F rd r s).vbk = s.vbk := rfl
@[simp] theorem setR8F_svbk (rd : Reg8) (r : Byte × Flags) (s : State) : (setR8F rd r s).svbk = s.svbk := rfl
@[simp] theorem setR8F_io (rd : Reg8) (r : Byte × Flags) (s : State) : (setR8F rd r s).io = s.io := rfl
@[simp] theorem setR8F_vram (rd : Reg8) (r : Byte × Flags) (s : State) : (setR8F rd r s).vram = s.vram := rfl
@[simp] theorem setR8F_wram (rd : Reg8) (r : Byte × Flags) (s : State) : (setR8F rd r s).wram = s.wram := rfl
@[simp] theorem setR8F_oam (rd : Reg8) (r : Byte × Flags) (s : State) : (setR8F rd r s).oam = s.oam := rfl
@[simp] theorem setR8F_hram (rd : Reg8) (r : Byte × Flags) (s : State) : (setR8F rd r s).hram = s.hram := rfl
@[simp] theorem setR8F_cram (rd : Reg8) (r : Byte × Flags) (s : State) : (setR8F rd r s).cram = s.cram := rfl
@[simp] theorem setR8F_cart (rd : Reg8) (r : Byte × Flags) (s : State) : (setR8F rd r s).cart = s.cart := rfl
@[simp] theorem setR8F_cfg (rd : Reg8) (r : Byte × Flags) (s : State) : (setR8F rd r s).cfg = s.cfg := rfl
@[simp] theorem setR8F_env (rd : Reg8) (r : Byte × Flags) (s : State) : (setR8F rd r s).env = s.env := rfl
@[simp] theorem setR8F_cost (rd : Reg8) (r : Byte × Flags) (s : State) : (setR8F rd r s).cost = s.cost := rfl
@[simp] theorem setR8F_cycles (rd : Reg8) (r : Byte × Flags) (s : State) : (setR8F rd r s).cycles = s.cycles := rfl

@[simp] theorem jump_regs (a : Word) (s : State) : (jump a s).regs = s.regs := rfl
@[simp] theorem jump_f (a : Word) (s : State) : (jump a s).f = s.f := rfl
@[simp] theorem jump_sp (a : Word) (s : State) : (jump a s).sp = s.sp := rfl
@[simp] theorem jump_pc (a : Word) (s : State) : (jump a s).pc = a := rfl
@[simp] theorem jump_ime (a : Word) (s : State) : (jump a s).ime = s.ime := rfl
@[simp] theorem jump_imePending (a : Word) (s : State) : (jump a s).imePending = s.imePending := rfl
@[simp] theorem jump_halted (a : Word) (s : State) : (jump a s).halted = s.halted := rfl
@[simp] theorem jump_haltBug (a : Word) (s : State) : (jump a s).haltBug = s.haltBug := rfl
@[simp] theorem jump_fault (a : Word) (s : State) : (jump a s).fault = s.fault := rfl
@[simp] theorem jump_ifr (a : Word) (s : State) : (jump a s).ifr = s.ifr := rfl
@[simp] theorem jump_ie (a : Word) (s : State) : (jump a s).ie = s.ie := rfl
@[simp] theorem jump_timer (a : Word) (s : State) : (jump a s).timer = s.timer := rfl
@[simp] theorem jump_dma (a : Word) (s : State) : (jump a s).dma = s.dma := rfl
@[simp] theorem jump_vbk (a : Word) (s : State) : (jump a s).vbk = s.vbk := rfl
@[simp] theorem jump_svbk (a : Word) (s : State) : (jump a s).svbk = s.svbk := rfl
@[simp] theorem jump_io (a : Word) (s : State) : (jump a s).io = s.io := rfl
@[simp] theorem jump_vram (a : Word) (s : State) : (jump a s).vram = s.vram := rfl
@[simp] theorem jump_wram (a : Word) (s : State) : (jump a s).wram = s.wram := rfl
@[simp] theorem jump_oam (a : Word) (s : State) : (jump a s).oam = s.oam := rfl
@[simp] theorem jump_hram (a : Word) (s : State) : (jump a s).hram = s.hram := rfl
@[simp] theorem jump_cram (a : Word) (s : State) : (jump a s).cram = s.cram := rfl
@[simp] theorem jump_cart (a : Word) (s : State) : (jump a s).cart = s.cart := rfl
@[simp] theorem jump_cfg (a : Word) (s : State) : (jump a s).cfg = s.cfg := rfl
@[simp] theorem jump_env (a : Word) (s : State) : (jump a s).env = s.env := rfl
@[simp] theorem jump_cost (a : Word) (s : State) : (jump a s).cost = s.cost := rfl
@[simp] theorem jump_cycles (a : Word) (s : State) : (jump a s).cycles = s.cycles := rfl

@[simp] theorem popSp_regs (s : State) : (popSp s).regs = s.regs := rfl
@[simp] theorem popSp_f (s : State) : (popSp s).f = s.f := rfl
@[simp] theorem popSp_sp (s : State) : (popSp s).sp = s.sp + 2#16 := rfl
@[simp] theorem popSp_pc (s : State) : (popSp s).pc = s.pc := rfl
@[simp] theorem popSp_ime (s : State) : (popSp s).ime = s.ime := rfl
@[simp] theorem popSp_imePending (s : State) : (popSp s).imePending = s.imePending := rfl
@[simp] theorem popSp_halted (s : State) : (popSp s).halted = s.halted := rfl
@[simp] theorem popSp_haltBug (s : State) : (popSp s).haltBug = s.haltBug := rfl
@[simp] theorem popSp_fault (s : State) : (popSp s).fault = s.fault := rfl
@[simp] theorem popSp_ifr (s : State) : (popSp s).ifr = s.ifr := rfl
@[simp] theorem popSp_ie (s : State) : (popSp s).ie = s.ie := rfl
@[simp] theorem popSp_timer (s : State) : (popSp s).timer = s.timer := rfl
@[simp] theorem popSp_dma (s : State) : (popSp s).dma = s.dma := rfl
@[simp] theorem popSp_vbk (s : State) : (popSp s).vbk = s.vbk := rfl
@[simp] theorem popSp_svbk (s : State) : (popSp s).svbk = s.svbk := rfl
@[simp] theorem popSp_io (s : State) : (popSp s).io = s.io := rfl
@[simp] theorem popSp_vram (s : State) : (popSp s).vram = s.vram := rfl
@[simp] theorem popSp_wram (s : State) : (popSp s).wram = s.wram := rfl
@[simp] theorem popSp_oam (s : State) : (popSp s).oam = s.oam := rfl
@[simp] theorem popSp_hram (s : State) : (popSp s).hram = s.hram := rfl
@[simp] theorem popSp_cram (s : State) : (popSp s).cram = s.cram := rfl
@[simp] theorem popSp_cart (s : State) : (popSp s).cart = s.cart := rfl
@[simp] theorem popSp_cfg (s : State) : (popSp s).cfg = s.cfg := rfl
@[simp] theorem popSp_env (s : State) : (popSp s).env = s.env := rfl
@[simp] theorem popSp_cost (s : State) : (popSp s).cost = s.cost := rfl
@[simp] theorem popSp_cycles (s : State) : (popSp s).cycles = s.cycles := rfl

@[simp] theorem returnPc_regs (s : State) : (returnPc s).regs = s.regs := rfl
@[simp] theorem returnPc_f (s : State) : (returnPc s).f = s.f := rfl
@[simp] theorem returnPc_sp (s : State) : (returnPc s).sp = s.sp + 2#16 := rfl
@[simp] theorem returnPc_pc (s : State) : (returnPc s).pc = popValue s := rfl
@[simp] theorem returnPc_ime (s : State) : (returnPc s).ime = s.ime := rfl
@[simp] theorem returnPc_imePending (s : State) : (returnPc s).imePending = s.imePending := rfl
@[simp] theorem returnPc_halted (s : State) : (returnPc s).halted = s.halted := rfl
@[simp] theorem returnPc_haltBug (s : State) : (returnPc s).haltBug = s.haltBug := rfl
@[simp] theorem returnPc_fault (s : State) : (returnPc s).fault = s.fault := rfl
@[simp] theorem returnPc_ifr (s : State) : (returnPc s).ifr = s.ifr := rfl
@[simp] theorem returnPc_ie (s : State) : (returnPc s).ie = s.ie := rfl
@[simp] theorem returnPc_timer (s : State) : (returnPc s).timer = s.timer := rfl
@[simp] theorem returnPc_dma (s : State) : (returnPc s).dma = s.dma := rfl
@[simp] theorem returnPc_vbk (s : State) : (returnPc s).vbk = s.vbk := rfl
@[simp] theorem returnPc_svbk (s : State) : (returnPc s).svbk = s.svbk := rfl
@[simp] theorem returnPc_io (s : State) : (returnPc s).io = s.io := rfl
@[simp] theorem returnPc_vram (s : State) : (returnPc s).vram = s.vram := rfl
@[simp] theorem returnPc_wram (s : State) : (returnPc s).wram = s.wram := rfl
@[simp] theorem returnPc_oam (s : State) : (returnPc s).oam = s.oam := rfl
@[simp] theorem returnPc_hram (s : State) : (returnPc s).hram = s.hram := rfl
@[simp] theorem returnPc_cram (s : State) : (returnPc s).cram = s.cram := rfl
@[simp] theorem returnPc_cart (s : State) : (returnPc s).cart = s.cart := rfl
@[simp] theorem returnPc_cfg (s : State) : (returnPc s).cfg = s.cfg := rfl
@[simp] theorem returnPc_env (s : State) : (returnPc s).env = s.env := rfl
@[simp] theorem returnPc_cost (s : State) : (returnPc s).cost = s.cost := rfl
@[simp] theorem returnPc_cycles (s : State) : (returnPc s).cycles = s.cycles := rfl

@[simp] theorem request_regs (i : Nat) (s : State) : (request i s).regs = s.regs := rfl
@[simp] theorem request_f (i : Nat) (s : State) : (request i s).f = s.f := rfl
@[simp] theorem request_sp (i : Nat) (s : State) : (request i s).sp = s.sp := rfl
@[simp] theorem request_pc (i : Nat) (s : State) : (request i s).pc = s.pc := rfl
@[simp] theorem request_ime (i : Nat) (s : State) : (request i s).ime = s.ime := rfl
@[simp] theorem request_imePending (i : Nat) (s : State) : (request i s).imePending = s.imePending := rfl
@[simp] theorem request_halted (i : Nat) (s : State) : (request i s).halted = s.halted := rfl
@[simp] theorem request_haltBug (i : Nat) (s : State) : (request i s).haltBug = s.haltBug := rfl
@[simp] theorem request_fault (i : Nat) (s : State) : (request i s).fault = s.fault := rfl
@[simp] theorem request_ifr (i : Nat) (s : State) : (request i s).ifr = s.ifr ||| (1#5 <<< i) := rfl
@[simp] theorem request_ie (i : Nat) (s : State) : (request i s).ie = s.ie := rfl
@[simp] theorem request_timer (i : Nat) (s : State) : (request i s).timer = s.timer := rfl
@[simp] theorem request_dma (i : Nat) (s : State) : (request i s).dma = s.dma := rfl
@[simp] theorem request_vbk (i : Nat) (s : State) : (request i s).vbk = s.vbk := rfl
@[simp] theorem request_svbk (i : Nat) (s : State) : (request i s).svbk = s.svbk := rfl
@[simp] theorem request_io (i : Nat) (s : State) : (request i s).io = s.io := rfl
@[simp] theorem request_vram (i : Nat) (s : State) : (request i s).vram = s.vram := rfl
@[simp] theorem request_wram (i : Nat) (s : State) : (request i s).wram = s.wram := rfl
@[simp] theorem request_oam (i : Nat) (s : State) : (request i s).oam = s.oam := rfl
@[simp] theorem request_hram (i : Nat) (s : State) : (request i s).hram = s.hram := rfl
@[simp] theorem request_cram (i : Nat) (s : State) : (request i s).cram = s.cram := rfl
@[simp] theorem request_cart (i : Nat) (s : State) : (request i s).cart = s.cart := rfl
@[simp] theorem request_cfg (i : Nat) (s : State) : (request i s).cfg = s.cfg := rfl
@[simp] theorem request_env (i : Nat) (s : State) : (request i s).env = s.env := rfl
@[simp] theorem request_cost (i : Nat) (s : State) : (request i s).cost = s.cost := rfl
@[simp] theorem request_cycles (i : Nat) (s : State) : (request i s).cycles = s.cycles := rfl

@[simp] theorem phantomStep_regs (s : State) : (phantomStep s).regs = s.regs := rfl
@[simp] theorem phantomStep_f (s : State) : (phantomStep s).f = s.f := rfl
@[simp] theorem phantomStep_sp (s : State) : (phantomStep s).sp = s.sp := rfl
@[simp] theorem phantomStep_pc (s : State) : (phantomStep s).pc = s.pc := rfl
@[simp] theorem phantomStep_ime (s : State) : (phantomStep s).ime = s.ime := rfl
@[simp] theorem phantomStep_imePending (s : State) : (phantomStep s).imePending = s.imePending := rfl
@[simp] theorem phantomStep_halted (s : State) : (phantomStep s).halted = s.halted := rfl
@[simp] theorem phantomStep_haltBug (s : State) : (phantomStep s).haltBug = s.haltBug := rfl
@[simp] theorem phantomStep_fault (s : State) : (phantomStep s).fault = s.fault := rfl
@[simp] theorem phantomStep_ifr (s : State) : (phantomStep s).ifr = s.ifr := rfl
@[simp] theorem phantomStep_ie (s : State) : (phantomStep s).ie = s.ie := rfl
@[simp] theorem phantomStep_timer (s : State) : (phantomStep s).timer = s.timer := rfl
@[simp] theorem phantomStep_dma (s : State) : (phantomStep s).dma = s.dma := rfl
@[simp] theorem phantomStep_vbk (s : State) : (phantomStep s).vbk = s.vbk := rfl
@[simp] theorem phantomStep_svbk (s : State) : (phantomStep s).svbk = s.svbk := rfl
@[simp] theorem phantomStep_io (s : State) : (phantomStep s).io = s.io := rfl
@[simp] theorem phantomStep_vram (s : State) : (phantomStep s).vram = s.vram := rfl
@[simp] theorem phantomStep_wram (s : State) : (phantomStep s).wram = s.wram := rfl
@[simp] theorem phantomStep_oam (s : State) : (phantomStep s).oam = s.oam := rfl
@[simp] theorem phantomStep_hram (s : State) : (phantomStep s).hram = s.hram := rfl
@[simp] theorem phantomStep_cram (s : State) : (phantomStep s).cram = s.cram := rfl
@[simp] theorem phantomStep_cart (s : State) : (phantomStep s).cart = s.cart := rfl
@[simp] theorem phantomStep_cfg (s : State) : (phantomStep s).cfg = s.cfg := rfl
@[simp] theorem phantomStep_env (s : State) : (phantomStep s).env = s.env := rfl
@[simp] theorem phantomStep_cost (s : State) : (phantomStep s).cost = 4 := rfl
@[simp] theorem phantomStep_cycles (s : State) : (phantomStep s).cycles = s.cycles := rfl

@[simp] theorem enableLater_regs (s : State) : (enableLater s).regs = s.regs := rfl
@[simp] theorem enableLater_f (s : State) : (enableLater s).f = s.f := rfl
@[simp] theorem enableLater_sp (s : State) : (enableLater s).sp = s.sp := rfl
@[simp] theorem enableLater_pc (s : State) : (enableLater s).pc = s.pc := rfl
@[simp] theorem enableLater_ime (s : State) : (enableLater s).ime = s.ime := rfl
@[simp] theorem enableLater_imePending (s : State) : (enableLater s).imePending = true := rfl
@[simp] theorem enableLater_halted (s : State) : (enableLater s).halted = s.halted := rfl
@[simp] theorem enableLater_haltBug (s : State) : (enableLater s).haltBug = s.haltBug := rfl
@[simp] theorem enableLater_fault (s : State) : (enableLater s).fault = s.fault := rfl
@[simp] theorem enableLater_ifr (s : State) : (enableLater s).ifr = s.ifr := rfl
@[simp] theorem enableLater_ie (s : State) : (enableLater s).ie = s.ie := rfl
@[simp] theorem enableLater_timer (s : State) : (enableLater s).timer = s.timer := rfl
@[simp] theorem enableLater_dma (s : State) : (enableLater s).dma = s.dma := rfl
@[simp] theorem enableLater_vbk (s : State) : (enableLater s).vbk = s.vbk := rfl
@[simp] theorem enableLater_svbk (s : State) : (enableLater s).svbk = s.svbk := rfl
@[simp] theorem enableLater_io (s : State) : (enableLater s).io = s.io := rfl
@[simp] theorem enableLater_vram (s : State) : (enableLater s).vram = s.vram := rfl
@[simp] theorem enableLater_wram (s : State) : (enableLater s).wram = s.wram := rfl
@[simp] theorem enableLater_oam (s : State) : (enableLater s).oam = s.oam := rfl
@[simp] theorem enableLater_hram (s : State) : (enableLater s).hram = s.hram := rfl
@[simp] theorem enableLater_cram (s : State) : (enableLater s).cram = s.cram := rfl
@[simp] theorem enableLater_cart (s : State) : (enableLater s).cart = s.cart := rfl
@[simp] theorem enableLater_cfg (s : State) : (enableLater s).cfg = s.cfg := rfl
@[simp] theorem enableLater_env (s : State) : (enableLater s).env = s.env := rfl
@[simp] theorem enableLater_cost (s : State) : (enableLater s).cost = s.cost := rfl
@[simp] theorem enableLater_cycles (s : State) : (enableLater s).cycles = s.cycles := rfl

@[simp] theorem disable_regs (s : State) : (disable s).regs = s.regs := rfl
@[simp] theorem disable_f (s : State) : (disable s).f = s.f := rfl
@[simp] theorem disable_sp (s : State) : (disable s).sp = s.sp := rfl
@[simp] theorem disable_pc (s : State) : (disable s).pc = s.pc := rfl
@[simp] theorem disable_ime (s : State) : (disable s).ime = false := rfl
@[simp] theorem disable_imePending (s : State) : (disable s).imePending = false := rfl
@[simp] theorem disable_halted (s : State) : (disable s).halted = s.halted := rfl
@[simp] theorem disable_haltBug (s : State) : (disable s).haltBug = s.haltBug := rfl
@[simp] theorem disable_fault (s : State) : (disable s).fault = s.fault := rfl
@[simp] theorem disable_ifr (s : State) : (disable s).ifr = s.ifr := rfl
@[simp] theorem disable_ie (s : State) : (disable s).ie = s.ie := rfl
@[simp] theorem disable_timer (s : State) : (disable s).timer = s.timer := rfl
@[simp] theorem disable_dma (s : State) : (disable s).dma = s.dma := rfl
@[simp] theorem disable_vbk (s : State) : (disable s).vbk = s.vbk := rfl
@[simp] theorem disable_svbk (s : State) : (disable s).svbk = s.svbk := rfl
@[simp] theorem disable_io (s : State) : (disable s).io = s.io := rfl
@[simp] theorem disable_vram (s : State) : (disable s).vram = s.vram := rfl
@[simp] theorem disable_wram (s : State) : (disable s).wram = s.wram := rfl
@[simp] theorem disable_oam (s : State) : (disable s).oam = s.oam := rfl
@[simp] theorem disable_hram (s : State) : (disable s).hram = s.hram := rfl
@[simp] theorem disable_cram (s : State) : (disable s).cram = s.cram := rfl
@[simp] theorem disable_cart (s : State) : (disable s).cart = s.cart := rfl
@[simp] theorem disable_cfg (s : State) : (disable s).cfg = s.cfg := rfl
@[simp] theorem disable_env (s : State) : (disable s).env = s.env := rfl
@[simp] theorem disable_cost (s : State) : (disable s).cost = s.cost := rfl
@[simp] theorem disable_cycles (s : State) : (disable s).cycles = s.cycles := rfl

end Sys2Proof.Machine
end

