-- ==== Sys2Proof/Laws/Bus.lean ====
section
/-! SUPPORT. What the bus operations can do: a write changes the parts behind the bus and no register or latch, a read
and a write look at those parts alone, and a write keeps every store in form. -/

namespace Sys2Proof.Machine

/-- The rows of R71 as address ranges. -/
theorem regionOf_bounds (a : Word) :
    match regionOf a with
    | .rom => a.toNat < 0x8000
    | .vram => 0x8000 ≤ a.toNat ∧ a.toNat < 0xA000
    | .cartRam => 0xA000 ≤ a.toNat ∧ a.toNat < 0xC000
    | .wramFixed => 0xC000 ≤ a.toNat ∧ a.toNat < 0xD000
    | .wramBank => 0xD000 ≤ a.toNat ∧ a.toNat < 0xE000
    | .echo => 0xE000 ≤ a.toNat ∧ a.toNat < 0xFE00
    | .oam => 0xFE00 ≤ a.toNat ∧ a.toNat < 0xFEA0
    | .unusable => 0xFEA0 ≤ a.toNat ∧ a.toNat < 0xFF00
    | .io => 0xFF00 ≤ a.toNat ∧ a.toNat < 0xFF80
    | .hram => 0xFF80 ≤ a.toNat ∧ a.toNat < 0xFFFF
    | .ie => a.toNat = 0xFFFF := by
  have h := a.isLt
  by_cases h0 : a.toNat < 0x8000
  · rw [show regionOf a = .rom by simp only [regionOf, h0, if_true]]
    dsimp only
    omega
  by_cases h1 : a.toNat < 0xA000
  · rw [show regionOf a = .vram by simp only [regionOf, h0, h1, if_true, if_false]]
    dsimp only
    omega
  by_cases h2 : a.toNat < 0xC000
  · rw [show regionOf a = .cartRam by simp only [regionOf, h0, h1, h2, if_true, if_false]]
    dsimp only
    omega
  by_cases h3 : a.toNat < 0xD000
  · rw [show regionOf a = .wramFixed by simp only [regionOf, h0, h1, h2, h3, if_true, if_false]]
    dsimp only
    omega
  by_cases h4 : a.toNat < 0xE000
  · rw [show regionOf a = .wramBank by simp only [regionOf, h0, h1, h2, h3, h4, if_true, if_false]]
    dsimp only
    omega
  by_cases h5 : a.toNat < 0xFE00
  · rw [show regionOf a = .echo by simp only [regionOf, h0, h1, h2, h3, h4, h5, if_true, if_false]]
    dsimp only
    omega
  by_cases h6 : a.toNat < 0xFEA0
  · rw [show regionOf a = .oam by simp only [regionOf, h0, h1, h2, h3, h4, h5, h6, if_true, if_false]]
    dsimp only
    omega
  by_cases h7 : a.toNat < 0xFF00
  · rw [show regionOf a = .unusable by simp only [regionOf, h0, h1, h2, h3, h4, h5, h6, h7, if_true, if_false]]
    dsimp only
    omega
  by_cases h8 : a.toNat < 0xFF80
  · rw [show regionOf a = .io by simp only [regionOf, h0, h1, h2, h3, h4, h5, h6, h7, h8, if_true, if_false]]
    dsimp only
    omega
  by_cases h9 : a.toNat < 0xFFFF
  · rw [show regionOf a = .hram by simp only [regionOf, h0, h1, h2, h3, h4, h5, h6, h7, h8, h9, if_true, if_false]]
    dsimp only
    omega
  rw [show regionOf a = .ie by simp only [regionOf, h0, h1, h2, h3, h4, h5, h6, h7, h8, h9, if_false]]
  dsimp only
  omega

/-- An offset that is device-owned is its own register. -/
theorem ioRegOf_device {k j : Nat} (h : ioRegOf k = .device j) : j = k := by
  unfold ioRegOf at h
  repeat' split at h
  all_goals simp_all

/-! The DMA copy writes the object memory alone. -/

theorem dmaFold_eq (v : Byte) (l : List Nat) (s : State) :
    l.foldl (dmaByte v) s = { s with oam := (l.foldl (dmaByte v) s).oam } := by
  induction l generalizing s with
  | nil => rfl
  | cons i l ih => rw [List.foldl_cons, ih]; rfl

theorem dmaCopy_eq (v : Byte) (s : State) : dmaCopy v s = { s with oam := (dmaCopy v s).oam } :=
  dmaFold_eq v _ s

/-! A control write moves the bank-select state alone; a write of cartridge RAM goes to `cram` or a clock byte. -/

/-- Two states that agree on every register, latch and field that no bus operation writes. -/
structure SameCpu (u s : State) : Prop where
  regs : u.regs = s.regs
  f : u.f = s.f
  sp : u.sp = s.sp
  pc : u.pc = s.pc
  ime : u.ime = s.ime
  imePending : u.imePending = s.imePending
  halted : u.halted = s.halted
  haltBug : u.haltBug = s.haltBug
  fault : u.fault = s.fault
  cfg : u.cfg = s.cfg
  env : u.env = s.env
  cost : u.cost = s.cost
  cycles : u.cycles = s.cycles

/-- What a write of cartridge RAM leaves alone. -/
theorem cartWriteRam_sameCpu (s : State) (a : Word) (v : Byte) : SameCpu (cartWriteRam s a v) s := by
  unfold cartWriteRam
  cases ramTarget s.cart s.cfg a <;> exact ⟨rfl, rfl, rfl, rfl, rfl, rfl, rfl, rfl, rfl, rfl, rfl, rfl, rfl⟩

/-- What the DMA copy leaves alone. -/
theorem dmaFold_sameCpu (v : Byte) (l : List Nat) (s : State) : SameCpu (l.foldl (dmaByte v) s) s := by
  rw [dmaFold_eq]
  exact ⟨rfl, rfl, rfl, rfl, rfl, rfl, rfl, rfl, rfl, rfl, rfl, rfl, rfl⟩

/-- What a write of an I/O register leaves alone. -/
theorem ioWrite_sameCpu (s : State) (r : IoReg) (v : Byte) : SameCpu (ioWrite s r v) s := by
  cases r with
  | dma =>
    have h := dmaFold_sameCpu v (List.range 160) { s with dma := v }
    exact ⟨h.regs, h.f, h.sp, h.pc, h.ime, h.imePending, h.halted, h.haltBug, h.fault, h.cfg, h.env, h.cost, h.cycles⟩
  | _ => exact ⟨rfl, rfl, rfl, rfl, rfl, rfl, rfl, rfl, rfl, rfl, rfl, rfl, rfl⟩

/-- What a bus write leaves alone. -/
theorem writeByte_sameCpu (s : State) (a : Word) (v : Byte) : SameCpu (writeByte s a v) s := by
  unfold writeByte
  cases regionOf a with
  | cartRam => exact cartWriteRam_sameCpu s a v
  | io => exact ioWrite_sameCpu s _ v
  | _ => exact ⟨rfl, rfl, rfl, rfl, rfl, rfl, rfl, rfl, rfl, rfl, rfl, rfl, rfl⟩

@[simp] theorem writeByte_regs (s : State) (a : Word) (v : Byte) : (writeByte s a v).regs = s.regs :=
  (writeByte_sameCpu s a v).regs

@[simp] theorem writeByte_f (s : State) (a : Word) (v : Byte) : (writeByte s a v).f = s.f :=
  (writeByte_sameCpu s a v).f

@[simp] theorem writeByte_sp (s : State) (a : Word) (v : Byte) : (writeByte s a v).sp = s.sp :=
  (writeByte_sameCpu s a v).sp

@[simp] theorem writeByte_pc (s : State) (a : Word) (v : Byte) : (writeByte s a v).pc = s.pc :=
  (writeByte_sameCpu s a v).pc

@[simp] theorem writeByte_ime (s : State) (a : Word) (v : Byte) : (writeByte s a v).ime = s.ime :=
  (writeByte_sameCpu s a v).ime

@[simp] theorem writeByte_imePending (s : State) (a : Word) (v : Byte) : (writeByte s a v).imePending = s.imePending :=
  (writeByte_sameCpu s a v).imePending

@[simp] theorem writeByte_halted (s : State) (a : Word) (v : Byte) : (writeByte s a v).halted = s.halted :=
  (writeByte_sameCpu s a v).halted

@[simp] theorem writeByte_haltBug (s : State) (a : Word) (v : Byte) : (writeByte s a v).haltBug = s.haltBug :=
  (writeByte_sameCpu s a v).haltBug

@[simp] theorem writeByte_fault (s : State) (a : Word) (v : Byte) : (writeByte s a v).fault = s.fault :=
  (writeByte_sameCpu s a v).fault

@[simp] theorem writeByte_cfg (s : State) (a : Word) (v : Byte) : (writeByte s a v).cfg = s.cfg :=
  (writeByte_sameCpu s a v).cfg

@[simp] theorem writeByte_env (s : State) (a : Word) (v : Byte) : (writeByte s a v).env = s.env :=
  (writeByte_sameCpu s a v).env

@[simp] theorem writeByte_cost (s : State) (a : Word) (v : Byte) : (writeByte s a v).cost = s.cost :=
  (writeByte_sameCpu s a v).cost

@[simp] theorem writeByte_cycles (s : State) (a : Word) (v : Byte) : (writeByte s a v).cycles = s.cycles :=
  (writeByte_sameCpu s a v).cycles

@[simp] theorem writeWord_regs (s : State) (a v : Word) : (writeWord s a v).regs = s.regs := by
  simp [writeWord]

@[simp] theorem writeWord_f (s : State) (a v : Word) : (writeWord s a v).f = s.f := by
  simp [writeWord]

@[simp] theorem writeWord_sp (s : State) (a v : Word) : (writeWord s a v).sp = s.sp := by
  simp [writeWord]

@[simp] theorem writeWord_pc (s : State) (a v : Word) : (writeWord s a v).pc = s.pc := by
  simp [writeWord]

@[simp] theorem writeWord_ime (s : State) (a v : Word) : (writeWord s a v).ime = s.ime := by
  simp [writeWord]

@[simp] theorem writeWord_imePending (s : State) (a v : Word) : (writeWord s a v).imePending = s.imePending := by
  simp [writeWord]

@[simp] theorem writeWord_halted (s : State) (a v : Word) : (writeWord s a v).halted = s.halted := by
  simp [writeWord]

@[simp] theorem writeWord_haltBug (s : State) (a v : Word) : (writeWord s a v).haltBug = s.haltBug := by
  simp [writeWord]

@[simp] theorem writeWord_fault (s : State) (a v : Word) : (writeWord s a v).fault = s.fault := by
  simp [writeWord]

@[simp] theorem writeWord_cfg (s : State) (a v : Word) : (writeWord s a v).cfg = s.cfg := by
  simp [writeWord]

@[simp] theorem writeWord_env (s : State) (a v : Word) : (writeWord s a v).env = s.env := by
  simp [writeWord]

@[simp] theorem writeWord_cost (s : State) (a v : Word) : (writeWord s a v).cost = s.cost := by
  simp [writeWord]

@[simp] theorem writeWord_cycles (s : State) (a v : Word) : (writeWord s a v).cycles = s.cycles := by
  simp [writeWord]

/-- Two states that agree on everything behind the bus. -/
structure SameBus (u s : State) : Prop where
  ifr : u.ifr = s.ifr
  ie : u.ie = s.ie
  timer : u.timer = s.timer
  dma : u.dma = s.dma
  vbk : u.vbk = s.vbk
  svbk : u.svbk = s.svbk
  io : u.io = s.io
  vram : u.vram = s.vram
  wram : u.wram = s.wram
  oam : u.oam = s.oam
  hram : u.hram = s.hram
  cram : u.cram = s.cram
  cart : u.cart = s.cart
  cfg : u.cfg = s.cfg

/-- Two states that agree on both are one. -/
theorem state_ext {u s : State} (hb : SameBus u s) (hc : SameCpu u s) : u = s := by
  cases u
  cases s
  obtain ⟨h0, h1, h2, h3, h4, h5, h6, h7, h8, h9, h10, h11, h12, h13⟩ := hb
  obtain ⟨g0, g1, g2, g3, g4, g5, g6, g7, g8, g9, g10, g11, g12⟩ := hc
  simp only at *
  congr

/-- A read of an I/O register looks at the parts behind the bus alone. -/
theorem ioRead_sameBus {u s : State} (h : SameBus u s) (r : IoReg) : ioRead u r = ioRead s r := by
  cases r <;> simp only [ioRead, h.timer, h.ifr, h.dma, h.vbk, h.svbk, h.io]

/-- A read looks at the parts behind the bus alone. -/
theorem readByte_sameBus {u s : State} (h : SameBus u s) (x : Word) : readByte u x = readByte s x := by
  unfold readByte
  cases regionOf x with
  | rom => simp only [cartReadRom, h.cart, h.cfg]
  | vram => simp only [h.cfg, h.vbk, h.vram]
  | cartRam => simp only [cartReadRam, h.cart, h.cfg, h.cram]
  | wramFixed => simp only [h.wram]
  | wramBank => simp only [h.cfg, h.svbk, h.wram]
  | echo => rfl
  | oam => simp only [h.oam]
  | unusable => rfl
  | io => exact ioRead_sameBus h _
  | hram => simp only [h.hram]
  | ie => exact h.ie

/-- So does each byte of the DMA copy. -/
theorem dmaFold_sameBus {u s : State} (h : SameBus u s) (v : Byte) (l : List Nat) :
    SameBus (l.foldl (dmaByte v) u) (l.foldl (dmaByte v) s) := by
  induction l generalizing u s with
  | nil => exact h
  | cons i l ih =>
    refine ih ⟨h.ifr, h.ie, h.timer, h.dma, h.vbk, h.svbk, h.io, h.vram, h.wram, ?_, h.hram, h.cram, h.cart, h.cfg⟩
    simp only [dmaByte, readByte_sameBus h, h.oam]

/-- A write of an I/O register looks at the parts behind the bus alone. -/
theorem ioWrite_sameBus {u s : State} (h : SameBus u s) (r : IoReg) (v : Byte) :
    SameBus (ioWrite u r v) (ioWrite s r v) := by
  cases r with
  | dma => exact dmaFold_sameBus (u := { u with dma := v }) (s := { s with dma := v }) ⟨h.ifr, h.ie, h.timer, rfl, h.vbk, h.svbk, h.io, h.vram, h.wram, h.oam, h.hram, h.cram, h.cart, h.cfg⟩ v (List.range 160)
  | div => exact ⟨h.ifr, h.ie, by simp only [ioWrite, h.timer], h.dma, h.vbk, h.svbk, h.io, h.vram, h.wram, h.oam, h.hram, h.cram, h.cart, h.cfg⟩
  | tima => exact ⟨h.ifr, h.ie, by simp only [ioWrite, h.timer], h.dma, h.vbk, h.svbk, h.io, h.vram, h.wram, h.oam, h.hram, h.cram, h.cart, h.cfg⟩
  | tma => exact ⟨h.ifr, h.ie, by simp only [ioWrite, h.timer], h.dma, h.vbk, h.svbk, h.io, h.vram, h.wram, h.oam, h.hram, h.cram, h.cart, h.cfg⟩
  | tac => exact ⟨h.ifr, h.ie, by simp only [ioWrite, h.timer], h.dma, h.vbk, h.svbk, h.io, h.vram, h.wram, h.oam, h.hram, h.cram, h.cart, h.cfg⟩
  | ifr => exact ⟨rfl, h.ie, h.timer, h.dma, h.vbk, h.svbk, h.io, h.vram, h.wram, h.oam, h.hram, h.cram, h.cart, h.cfg⟩
  | vbk => exact ⟨h.ifr, h.ie, h.timer, h.dma, rfl, h.svbk, h.io, h.vram, h.wram, h.oam, h.hram, h.cram, h.cart, h.cfg⟩
  | svbk => exact ⟨h.ifr, h.ie, h.timer, h.dma, h.vbk, rfl, h.io, h.vram, h.wram, h.oam, h.hram, h.cram, h.cart, h.cfg⟩
  | device k => exact ⟨h.ifr, h.ie, h.timer, h.dma, h.vbk, h.svbk, by simp only [ioWrite, h.io], h.vram, h.wram, h.oam, h.hram, h.cram, h.cart, h.cfg⟩

/-- A write of cartridge RAM looks at the parts behind the bus alone. -/
theorem cartWriteRam_sameBus {u s : State} (h : SameBus u s) (x : Word) (v : Byte) :
    SameBus (cartWriteRam u x v) (cartWriteRam s x v) := by
  simp only [cartWriteRam, h.cart, h.cfg]
  cases ramTarget s.cart s.cfg x with
  | closed => exact h
  | cram i => exact ⟨h.ifr, h.ie, h.timer, h.dma, h.vbk, h.svbk, h.io, h.vram, h.wram, h.oam, h.hram, by simp only [h.cram], rfl, rfl⟩
  | rtc i => exact ⟨h.ifr, h.ie, h.timer, h.dma, h.vbk, h.svbk, h.io, h.vram, h.wram, h.oam, h.hram, h.cram, rfl, rfl⟩

/-- A write looks at the parts behind the bus alone. -/
theorem writeByte_sameBus {u s : State} (h : SameBus u s) (x : Word) (v : Byte) :
    SameBus (writeByte u x v) (writeByte s x v) := by
  unfold writeByte
  cases regionOf x with
  | rom => exact ⟨h.ifr, h.ie, h.timer, h.dma, h.vbk, h.svbk, h.io, h.vram, h.wram, h.oam, h.hram, h.cram, by simp only [cartWriteRom, h.cart], h.cfg⟩
  | vram => exact ⟨h.ifr, h.ie, h.timer, h.dma, h.vbk, h.svbk, h.io, by simp only [h.cfg, h.vbk, h.vram], h.wram, h.oam, h.hram, h.cram, h.cart, h.cfg⟩
  | cartRam =>
    exact cartWriteRam_sameBus h x v
  | wramFixed => exact ⟨h.ifr, h.ie, h.timer, h.dma, h.vbk, h.svbk, h.io, h.vram, by simp only [h.wram], h.oam, h.hram, h.cram, h.cart, h.cfg⟩
  | wramBank => exact ⟨h.ifr, h.ie, h.timer, h.dma, h.vbk, h.svbk, h.io, h.vram, by simp only [h.cfg, h.svbk, h.wram], h.oam, h.hram, h.cram, h.cart, h.cfg⟩
  | echo => exact h
  | oam => exact ⟨h.ifr, h.ie, h.timer, h.dma, h.vbk, h.svbk, h.io, h.vram, h.wram, by simp only [h.oam], h.hram, h.cram, h.cart, h.cfg⟩
  | unusable => exact h
  | io => exact ioWrite_sameBus h _ v
  | hram => exact ⟨h.ifr, h.ie, h.timer, h.dma, h.vbk, h.svbk, h.io, h.vram, h.wram, h.oam, by simp only [h.hram], h.cram, h.cart, h.cfg⟩
  | ie => exact ⟨h.ifr, rfl, h.timer, h.dma, h.vbk, h.svbk, h.io, h.vram, h.wram, h.oam, h.hram, h.cram, h.cart, h.cfg⟩

/-- A bus write and an update of registers and latches commute: it is enough to compare the registers and latches. -/
theorem writeByte_comm {u s t : State} {x : Word} {v : Byte} (hb : SameBus u s) (ht : SameBus t (writeByte s x v))
    (hc : SameCpu t (writeByte u x v)) : t = writeByte u x v :=
  state_ext ⟨ht.ifr.trans (writeByte_sameBus hb x v).ifr.symm, ht.ie.trans (writeByte_sameBus hb x v).ie.symm, ht.timer.trans (writeByte_sameBus hb x v).timer.symm, ht.dma.trans (writeByte_sameBus hb x v).dma.symm, ht.vbk.trans (writeByte_sameBus hb x v).vbk.symm, ht.svbk.trans (writeByte_sameBus hb x v).svbk.symm, ht.io.trans (writeByte_sameBus hb x v).io.symm, ht.vram.trans (writeByte_sameBus hb x v).vram.symm, ht.wram.trans (writeByte_sameBus hb x v).wram.symm, ht.oam.trans (writeByte_sameBus hb x v).oam.symm, ht.hram.trans (writeByte_sameBus hb x v).hram.symm, ht.cram.trans (writeByte_sameBus hb x v).cram.symm, ht.cart.trans (writeByte_sameBus hb x v).cart.symm, ht.cfg.trans (writeByte_sameBus hb x v).cfg.symm⟩ hc

theorem sameBus_beginStep (len : Nat) (s : State) : SameBus (beginStep len s) s :=
  ⟨rfl, rfl, rfl, rfl, rfl, rfl, rfl, rfl, rfl, rfl, rfl, rfl, rfl, rfl⟩

@[simp] theorem readByte_beginStep (len : Nat) (s : State) (x : Word) : readByte (beginStep len s) x = readByte s x :=
  readByte_sameBus (sameBus_beginStep len s) x

theorem sameBus_finishStep (p : Bool) (k : Nat) (s : State) : SameBus (finishStep p k s) s :=
  ⟨rfl, rfl, rfl, rfl, rfl, rfl, rfl, rfl, rfl, rfl, rfl, rfl, rfl, rfl⟩

@[simp] theorem readByte_finishStep (p : Bool) (k : Nat) (s : State) (x : Word) : readByte (finishStep p k s) x = readByte s x :=
  readByte_sameBus (sameBus_finishStep p k s) x

theorem sameBus_retired (len k : Nat) (s : State) : SameBus (retired len k s) s :=
  ⟨rfl, rfl, rfl, rfl, rfl, rfl, rfl, rfl, rfl, rfl, rfl, rfl, rfl, rfl⟩

@[simp] theorem readByte_retired (len k : Nat) (s : State) (x : Word) : readByte (retired len k s) x = readByte s x :=
  readByte_sameBus (sameBus_retired len k s) x

theorem sameBus_setR8 (r : Reg8) (v : Byte) (s : State) : SameBus (setR8 r v s) s :=
  ⟨rfl, rfl, rfl, rfl, rfl, rfl, rfl, rfl, rfl, rfl, rfl, rfl, rfl, rfl⟩

@[simp] theorem readByte_setR8 (r : Reg8) (v : Byte) (s : State) (x : Word) : readByte (setR8 r v s) x = readByte s x :=
  readByte_sameBus (sameBus_setR8 r v s) x

theorem sameBus_setHl (v : Word) (s : State) : SameBus (setHl v s) s :=
  ⟨rfl, rfl, rfl, rfl, rfl, rfl, rfl, rfl, rfl, rfl, rfl, rfl, rfl, rfl⟩

@[simp] theorem readByte_setHl (v : Word) (s : State) (x : Word) : readByte (setHl v s) x = readByte s x :=
  readByte_sameBus (sameBus_setHl v s) x

theorem sameBus_setBc (v : Word) (s : State) : SameBus (setBc v s) s :=
  ⟨rfl, rfl, rfl, rfl, rfl, rfl, rfl, rfl, rfl, rfl, rfl, rfl, rfl, rfl⟩

@[simp] theorem readByte_setBc (v : Word) (s : State) (x : Word) : readByte (setBc v s) x = readByte s x :=
  readByte_sameBus (sameBus_setBc v s) x

theorem sameBus_setDe (v : Word) (s : State) : SameBus (setDe v s) s :=
  ⟨rfl, rfl, rfl, rfl, rfl, rfl, rfl, rfl, rfl, rfl, rfl, rfl, rfl, rfl⟩

@[simp] theorem readByte_setDe (v : Word) (s : State) (x : Word) : readByte (setDe v s) x = readByte s x :=
  readByte_sameBus (sameBus_setDe v s) x

theorem sameBus_setAf (v : Word) (s : State) : SameBus (setAf v s) s :=
  ⟨rfl, rfl, rfl, rfl, rfl, rfl, rfl, rfl, rfl, rfl, rfl, rfl, rfl, rfl⟩

@[simp] theorem readByte_setAf (v : Word) (s : State) (x : Word) : readByte (setAf v s) x = readByte s x :=
  readByte_sameBus (sameBus_setAf v s) x

theorem sameBus_setAF8 (r : Byte × Flags) (s : State) : SameBus (setAF8 r s) s :=
  ⟨rfl, rfl, rfl, rfl, rfl, rfl, rfl, rfl, rfl, rfl, rfl, rfl, rfl, rfl⟩

@[simp] theorem readByte_setAF8 (r : Byte × Flags) (s : State) (x : Word) : readByte (setAF8 r s) x = readByte s x :=
  readByte_sameBus (sameBus_setAF8 r s) x

theorem sameBus_setR8F (rd : Reg8) (r : Byte × Flags) (s : State) : SameBus (setR8F rd r s) s :=
  ⟨rfl, rfl, rfl, rfl, rfl, rfl, rfl, rfl, rfl, rfl, rfl, rfl, rfl, rfl⟩

@[simp] theorem readByte_setR8F (rd : Reg8) (r : Byte × Flags) (s : State) (x : Word) : readByte (setR8F rd r s) x = readByte s x :=
  readByte_sameBus (sameBus_setR8F rd r s) x

theorem sameBus_jump (a : Word) (s : State) : SameBus (jump a s) s :=
  ⟨rfl, rfl, rfl, rfl, rfl, rfl, rfl, rfl, rfl, rfl, rfl, rfl, rfl, rfl⟩

@[simp] theorem readByte_jump (a : Word) (s : State) (x : Word) : readByte (jump a s) x = readByte s x :=
  readByte_sameBus (sameBus_jump a s) x

theorem sameBus_popSp (s : State) : SameBus (popSp s) s :=
  ⟨rfl, rfl, rfl, rfl, rfl, rfl, rfl, rfl, rfl, rfl, rfl, rfl, rfl, rfl⟩

@[simp] theorem readByte_popSp (s : State) (x : Word) : readByte (popSp s) x = readByte s x :=
  readByte_sameBus (sameBus_popSp s) x

theorem sameBus_returnPc (s : State) : SameBus (returnPc s) s :=
  ⟨rfl, rfl, rfl, rfl, rfl, rfl, rfl, rfl, rfl, rfl, rfl, rfl, rfl, rfl⟩

@[simp] theorem readByte_returnPc (s : State) (x : Word) : readByte (returnPc s) x = readByte s x :=
  readByte_sameBus (sameBus_returnPc s) x

theorem sameBus_phantomStep (s : State) : SameBus (phantomStep s) s :=
  ⟨rfl, rfl, rfl, rfl, rfl, rfl, rfl, rfl, rfl, rfl, rfl, rfl, rfl, rfl⟩

@[simp] theorem readByte_phantomStep (s : State) (x : Word) : readByte (phantomStep s) x = readByte s x :=
  readByte_sameBus (sameBus_phantomStep s) x

theorem sameBus_enableLater (s : State) : SameBus (enableLater s) s :=
  ⟨rfl, rfl, rfl, rfl, rfl, rfl, rfl, rfl, rfl, rfl, rfl, rfl, rfl, rfl⟩

@[simp] theorem readByte_enableLater (s : State) (x : Word) : readByte (enableLater s) x = readByte s x :=
  readByte_sameBus (sameBus_enableLater s) x

theorem sameBus_disable (s : State) : SameBus (disable s) s :=
  ⟨rfl, rfl, rfl, rfl, rfl, rfl, rfl, rfl, rfl, rfl, rfl, rfl, rfl, rfl⟩

@[simp] theorem readByte_disable (s : State) (x : Word) : readByte (disable s) x = readByte s x :=
  readByte_sameBus (sameBus_disable s) x

/-! A bus write commutes with the updates of registers and latches. -/

theorem writeByte_beginStep (len : Nat) (s : State) (x : Word) (w : Byte) :
    writeByte (beginStep len s) x w = beginStep len (writeByte s x w) :=
  (writeByte_comm (sameBus_beginStep len s) (sameBus_beginStep len _) (by constructor <;> simp [pcAfter])).symm

theorem writeByte_finishStep (p : Bool) (k : Nat) (s : State) (x : Word) (w : Byte) :
    writeByte (finishStep p k s) x w = finishStep p k (writeByte s x w) :=
  (writeByte_comm (sameBus_finishStep p k s) (sameBus_finishStep p k _) (by constructor <;> simp)).symm

theorem writeByte_retired (len k : Nat) (s : State) (x : Word) (w : Byte) :
    writeByte (retired len k s) x w = retired len k (writeByte s x w) :=
  (writeByte_comm (sameBus_retired len k s) (sameBus_retired len k _) (by constructor <;> simp [pcAfter])).symm

theorem writeByte_setR8 (r : Reg8) (v : Byte) (s : State) (x : Word) (w : Byte) :
    writeByte (setR8 r v s) x w = setR8 r v (writeByte s x w) :=
  (writeByte_comm (sameBus_setR8 r v s) (sameBus_setR8 r v _) (by constructor <;> simp)).symm

theorem writeByte_setHl (v : Word) (s : State) (x : Word) (w : Byte) :
    writeByte (setHl v s) x w = setHl v (writeByte s x w) :=
  (writeByte_comm (sameBus_setHl v s) (sameBus_setHl v _) (by constructor <;> simp)).symm

theorem writeByte_setBc (v : Word) (s : State) (x : Word) (w : Byte) :
    writeByte (setBc v s) x w = setBc v (writeByte s x w) :=
  (writeByte_comm (sameBus_setBc v s) (sameBus_setBc v _) (by constructor <;> simp)).symm

theorem writeByte_setDe (v : Word) (s : State) (x : Word) (w : Byte) :
    writeByte (setDe v s) x w = setDe v (writeByte s x w) :=
  (writeByte_comm (sameBus_setDe v s) (sameBus_setDe v _) (by constructor <;> simp)).symm

theorem writeByte_setAf (v : Word) (s : State) (x : Word) (w : Byte) :
    writeByte (setAf v s) x w = setAf v (writeByte s x w) :=
  (writeByte_comm (sameBus_setAf v s) (sameBus_setAf v _) (by constructor <;> simp)).symm

theorem writeByte_setAF8 (r : Byte × Flags) (s : State) (x : Word) (w : Byte) :
    writeByte (setAF8 r s) x w = setAF8 r (writeByte s x w) :=
  (writeByte_comm (sameBus_setAF8 r s) (sameBus_setAF8 r _) (by constructor <;> simp)).symm

theorem writeByte_setR8F (rd : Reg8) (r : Byte × Flags) (s : State) (x : Word) (w : Byte) :
    writeByte (setR8F rd r s) x w = setR8F rd r (writeByte s x w) :=
  (writeByte_comm (sameBus_setR8F rd r s) (sameBus_setR8F rd r _) (by constructor <;> simp)).symm

theorem writeByte_jump (a : Word) (s : State) (x : Word) (w : Byte) :
    writeByte (jump a s) x w = jump a (writeByte s x w) :=
  (writeByte_comm (sameBus_jump a s) (sameBus_jump a _) (by constructor <;> simp)).symm

theorem writeByte_popSp (s : State) (x : Word) (w : Byte) :
    writeByte (popSp s) x w = popSp (writeByte s x w) :=
  (writeByte_comm (sameBus_popSp s) (sameBus_popSp _) (by constructor <;> simp)).symm

theorem writeByte_phantomStep (s : State) (x : Word) (w : Byte) :
    writeByte (phantomStep s) x w = phantomStep (writeByte s x w) :=
  (writeByte_comm (sameBus_phantomStep s) (sameBus_phantomStep _) (by constructor <;> simp)).symm

theorem writeByte_enableLater (s : State) (x : Word) (w : Byte) :
    writeByte (enableLater s) x w = enableLater (writeByte s x w) :=
  (writeByte_comm (sameBus_enableLater s) (sameBus_enableLater _) (by constructor <;> simp)).symm

theorem writeByte_disable (s : State) (x : Word) (w : Byte) :
    writeByte (disable s) x w = disable (writeByte s x w) :=
  (writeByte_comm (sameBus_disable s) (sameBus_disable _) (by constructor <;> simp)).symm

/-! A bus write keeps every store in form. -/

/-- An index of video RAM lies within it. -/
theorem vramIndex_lt (c : Config) (b : BitVec 1) {a : Word} (h : regionOf a = .vram) :
    vramIndex c.vramBanks b a < c.vramSize := by
  have hb := regionOf_bounds a
  rw [h] at hb
  have hv := b.isLt
  simp only at hb
  unfold vramIndex Config.vramSize
  cases c.vramBanks <;> simp only <;> omega

/-- An index of the switchable work RAM lies within work RAM, above its fixed bank. -/
theorem wramIndex_bounds (c : Config) (b : BitVec 3) {a : Word} (h : regionOf a = .wramBank) :
    0x1000 ≤ wramIndex c.wramBanks b a ∧ wramIndex c.wramBanks b a < c.wramSize := by
  have hb := regionOf_bounds a
  rw [h] at hb
  have hv := b.isLt
  simp only at hb
  unfold wramIndex Config.wramSize
  cases c.wramBanks <;> simp only <;> omega

/-- An index of the fixed work RAM lies within work RAM. -/
theorem wramFixed_lt (c : Config) {a : Word} (h : regionOf a = .wramFixed) : a.toNat - 0xC000 < c.wramSize := by
  have hb := regionOf_bounds a
  rw [h] at hb
  simp only at hb
  unfold Config.wramSize
  cases c.wramBanks <;> simp only <;> omega

/-- What stands behind an address of the cartridge RAM window lies within it: a byte of `cram`. -/
theorem ramTarget_cram_lt {cart : Cart} {cfg : Config} {a : Word} {i : Nat} (h : ramTarget cart cfg a = .cram i) :
    i < cfg.cramSize.bytes := by
  have hc : ∀ b, cramAt cfg b a = .cram i → i < cfg.cramSize.bytes := by
    intro b h
    unfold cramAt at h
    split at h
    · cases h
    · next hz =>
      have h := RamTarget.cram.inj h
      rw [← h]
      exact Nat.mod_lt _ (Nat.pos_of_ne_zero hz)
  unfold ramTarget at h
  cases cart with
  | romOnly => cases h
  | mbc1 m => simp only at h; split at h; exact hc _ h; cases h
  | mbc3 m =>
    simp only at h
    split at h
    · split at h
      · cases h
      · split at h; exact hc _ h; cases h
    · cases h
  | mbc5 m => simp only at h; split at h; exact hc _ h; cases h

/-- What stands behind an address of the cartridge RAM window lies within it: one of the five clock bytes. -/
theorem ramTarget_rtc_lt {cart : Cart} {cfg : Config} {a : Word} {i : Nat} (h : ramTarget cart cfg a = .rtc i) :
    i < 5 := by
  have hc : ∀ b, cramAt cfg b a ≠ .rtc i := by
    intro b h
    unfold cramAt at h
    split at h <;> cases h
  unfold ramTarget at h
  cases cart with
  | romOnly => cases h
  | mbc1 m => simp only at h; split at h; exact absurd h (hc _); cases h
  | mbc3 m =>
    simp only at h
    split at h
    · split at h
      · next hr => cases h; omega
      · split at h; exact absurd h (hc _); cases h
    · cases h
  | mbc5 m => simp only at h; split at h; exact absurd h (hc _); cases h

/-- The parts of `storesOk`. -/
theorem storesOk_iff (s : State) :
    s.storesOk = true ↔
      (s.io.wf = true ∧ Memory.within 0x80 s.io = true ∧ (s.io.all fun c => ioRegOf c.1 == .device c.1) = true) ∧
      (s.vram.wf = true ∧ Memory.within s.cfg.vramSize s.vram = true) ∧
      (s.wram.wf = true ∧ Memory.within s.cfg.wramSize s.wram = true) ∧
      (s.oam.wf = true ∧ Memory.within 0xA0 s.oam = true) ∧
      (s.hram.wf = true ∧ Memory.within 0x7F s.hram = true) ∧
      (s.cram.wf = true ∧ Memory.within s.cfg.cramSize.bytes s.cram = true) ∧
      (Memory.wf s.cfg.rom = true ∧ Memory.within (s.cfg.nbanks * 0x4000) s.cfg.rom = true) ∧
      2 ≤ s.cfg.nbanks := by
  simp only [State.storesOk, Bool.and_eq_true, decide_eq_true_eq, and_assoc]

/-- The DMA copy keeps every store in form. -/
theorem dmaFold_storesOk (v : Byte) (l : List Nat) (hl : ∀ i ∈ l, i < 0xA0) (s : State) (h : s.storesOk = true) :
    (l.foldl (dmaByte v) s).storesOk = true := by
  induction l generalizing s with
  | nil => exact h
  | cons i l ih =>
    refine ih (fun j hj => hl j (List.mem_cons_of_mem _ hj)) _ ?_
    rw [storesOk_iff] at *
    obtain ⟨h1, h2, h3, h4, h5, h6, h7, h8⟩ := h
    exact ⟨h1, h2, h3, ⟨Memory.wf_write h4.1 _ _, Memory.within_write h4.2 (hl i (by simp)) _⟩, h5, h6, h7, h8⟩

/-- A control write keeps the bank selectors legal. -/
theorem control_ok (cart : Cart) (a : Word) (v : Byte) (h : cart.ok = true) : (cart.control a v).ok = true := by
  have nz : ∀ {w : Nat} (x : BitVec (w + 1)), notZero x ≠ 0#(w + 1) := by
    intro w x
    unfold notZero
    split
    · simp
    · assumption
  cases cart with
  | romOnly => rfl
  | mbc1 m =>
    simp only [Cart.control, Mbc1.control, Cart.ok, bne_iff_ne] at *
    repeat' split
    all_goals first | exact h | exact nz _
  | mbc3 m =>
    simp only [Cart.control, Mbc3.control, Cart.ok, Bool.and_eq_true, bne_iff_ne] at *
    repeat' split
    all_goals first | exact h | exact ⟨⟨nz _, h.1.2⟩, h.2⟩
  | mbc5 m => rfl

/-- A bus write keeps every store in form and the bank selectors legal. -/
theorem writeByte_ok {s : State} (a : Word) (v : Byte) (h : s.storesOk = true) (hc : s.cart.ok = true) :
    (writeByte s a v).storesOk = true ∧ (writeByte s a v).cart.ok = true := by
  have h' := h
  rw [storesOk_iff] at h
  obtain ⟨h1, h2, h3, h4, h5, h6, h7, h8⟩ := h
  have hb := regionOf_bounds a
  unfold writeByte
  split
  · exact ⟨h', control_ok _ _ _ hc⟩
  · next hr =>
    rw [hr] at hb
    refine ⟨(storesOk_iff _).2 ⟨h1, ⟨Memory.wf_write h2.1 _ _, Memory.within_write h2.2 (vramIndex_lt _ _ hr) _⟩, h3, h4, h5, h6, h7, h8⟩, hc⟩
  · unfold cartWriteRam
    cases ht : ramTarget s.cart s.cfg a with
    | closed => exact ⟨h', hc⟩
    | cram i =>
      exact ⟨(storesOk_iff _).2 ⟨h1, h2, h3, h4, h5,
        ⟨Memory.wf_write h6.1 _ _, Memory.within_write h6.2 (ramTarget_cram_lt ht) _⟩, h7, h8⟩, hc⟩
    | rtc i =>
      refine ⟨h', ?_⟩
      have hi := ramTarget_rtc_lt ht
      cases hcart : s.cart with
      | mbc3 m =>
        rw [hcart] at hc
        simp only [Cart.ok, Cart.rtcWrite, Bool.and_eq_true] at *
        exact ⟨⟨hc.1.1, Memory.wf_write hc.1.2 _ _⟩, Memory.within_write hc.2 hi _⟩
      | _ => simpa [Cart.rtcWrite, hcart] using hc
  · next hr =>
    refine ⟨(storesOk_iff _).2 ⟨h1, h2, ⟨Memory.wf_write h3.1 _ _, Memory.within_write h3.2 (wramFixed_lt _ hr) _⟩, h4, h5, h6, h7, h8⟩, hc⟩
  · next hr =>
    refine ⟨(storesOk_iff _).2 ⟨h1, h2, ⟨Memory.wf_write h3.1 _ _, Memory.within_write h3.2 (wramIndex_bounds _ _ hr).2 _⟩, h4, h5, h6, h7, h8⟩, hc⟩
  · exact ⟨h', hc⟩
  · next hr =>
    rw [hr] at hb
    refine ⟨(storesOk_iff _).2 ⟨h1, h2, h3, ⟨Memory.wf_write h4.1 _ _, Memory.within_write h4.2 (by simp only at hb; omega) _⟩, h5, h6, h7, h8⟩, hc⟩
  · exact ⟨h', hc⟩
  · next hr =>
    rw [hr] at hb
    cases hio : ioRegOf (a.toNat - 0xFF00) with
    | device k =>
      have hk := ioRegOf_device hio
      refine ⟨(storesOk_iff _).2 ⟨⟨Memory.wf_write h1.1 _ _, Memory.within_write h1.2.1 (by simp only at hb; omega) _,
        Memory.all_write h1.2.2 (by simp [hk, hio])⟩, h2, h3, h4, h5, h6, h7, h8⟩, hc⟩
    | dma =>
      refine ⟨?_, ?_⟩
      · exact dmaFold_storesOk v _ (by simp [List.mem_range]) _ h'
      · simp only [ioWrite]; rw [dmaCopy_eq]; exact hc
    | _ => exact ⟨h', hc⟩
  · next hr =>
    rw [hr] at hb
    refine ⟨(storesOk_iff _).2 ⟨h1, h2, h3, h4, ⟨Memory.wf_write h5.1 _ _, Memory.within_write h5.2 (by simp only at hb; omega) _⟩, h6, h7, h8⟩, hc⟩
  · exact ⟨h', hc⟩

end Sys2Proof.Machine
end

