-- ==== Sys2Proof/Laws/Ops.lean ====
section
/-! SUPPORT. What the shared operations can do: the frame of a CPU step, the stack primitives, trap entry. -/

namespace Sys2Proof.Machine

/-- A retired instruction answers a next state. -/
@[simp] theorem retire_eq (len k : Nat) (body : State → State) (s : State) :
    retire len k body s = .next (finishStep s.imePending k (body (beginStep len s))) := rfl

/-- A CPU step whose Operation does nothing. -/
theorem finishStep_beginStep (len k : Nat) (s : State) :
    finishStep s.imePending k (beginStep len s) = retired len k s := rfl

/-- The latch sampled at the start is unchanged by every Operation that is a bus write. -/
theorem finish_writeByte (len k : Nat) (s : State) (a : Word) (v : Byte) :
    finishStep s.imePending k (writeByte (beginStep len s) a v) = writeByte (retired len k s) a v := by
  rw [← finishStep_beginStep, writeByte_finishStep]

theorem writeWord_finishStep (p : Bool) (k : Nat) (s : State) (x w : Word) :
    writeWord (finishStep p k s) x w = finishStep p k (writeWord s x w) := by
  simp only [writeWord, writeByte_finishStep]

theorem writeWord_beginStep (len : Nat) (s : State) (x w : Word) :
    writeWord (beginStep len s) x w = beginStep len (writeWord s x w) := by
  simp only [writeWord, writeByte_beginStep]

theorem writeWord_retired (len k : Nat) (s : State) (x w : Word) :
    writeWord (retired len k s) x w = retired len k (writeWord s x w) := by
  simp only [writeWord, writeByte_retired]

theorem writeWord_jump (a : Word) (s : State) (x w : Word) :
    writeWord (jump a s) x w = jump a (writeWord s x w) := by
  simp only [writeWord, writeByte_jump]

/-- A push is the move of `SP` and one word write. -/
theorem push16_eq (v : Word) (s : State) :
    push16 v s = writeWord { s with sp := s.sp - 2#16 } (s.sp - 2#16) v := rfl

theorem push16_finishStep (p : Bool) (k : Nat) (v : Word) (s : State) :
    push16 v (finishStep p k s) = finishStep p k (push16 v s) :=
  writeWord_finishStep p k { s with sp := s.sp - 2#16 } (s.sp - 2#16) v

@[simp] theorem push16_regs (v : Word) (s : State) : (push16 v s).regs = s.regs := by
  simp [push16]

@[simp] theorem push16_f (v : Word) (s : State) : (push16 v s).f = s.f := by
  simp [push16]

@[simp] theorem push16_sp (v : Word) (s : State) : (push16 v s).sp = s.sp - 2#16 := by
  simp [push16]

@[simp] theorem push16_pc (v : Word) (s : State) : (push16 v s).pc = s.pc := by
  simp [push16]

@[simp] theorem push16_ime (v : Word) (s : State) : (push16 v s).ime = s.ime := by
  simp [push16]

@[simp] theorem push16_imePending (v : Word) (s : State) : (push16 v s).imePending = s.imePending := by
  simp [push16]

@[simp] theorem push16_halted (v : Word) (s : State) : (push16 v s).halted = s.halted := by
  simp [push16]

@[simp] theorem push16_haltBug (v : Word) (s : State) : (push16 v s).haltBug = s.haltBug := by
  simp [push16]

@[simp] theorem push16_fault (v : Word) (s : State) : (push16 v s).fault = s.fault := by
  simp [push16]

@[simp] theorem push16_cfg (v : Word) (s : State) : (push16 v s).cfg = s.cfg := by
  simp [push16]

@[simp] theorem push16_env (v : Word) (s : State) : (push16 v s).env = s.env := by
  simp [push16]

@[simp] theorem push16_cost (v : Word) (s : State) : (push16 v s).cost = s.cost := by
  simp [push16]

@[simp] theorem push16_cycles (v : Word) (s : State) : (push16 v s).cycles = s.cycles := by
  simp [push16]

@[simp] theorem dispatchInterrupt_regs (i : Nat) (s : State) : (dispatchInterrupt i s).regs = s.regs := by
  simp [dispatchInterrupt]

@[simp] theorem dispatchInterrupt_f (i : Nat) (s : State) : (dispatchInterrupt i s).f = s.f := by
  simp [dispatchInterrupt]

@[simp] theorem dispatchInterrupt_sp (i : Nat) (s : State) : (dispatchInterrupt i s).sp = s.sp - 2#16 := by
  simp [dispatchInterrupt]

@[simp] theorem dispatchInterrupt_pc (i : Nat) (s : State) : (dispatchInterrupt i s).pc = BitVec.ofNat 16 (0x0040 + 8 * i) := by
  simp [dispatchInterrupt]

@[simp] theorem dispatchInterrupt_ime (i : Nat) (s : State) : (dispatchInterrupt i s).ime = false := by
  simp [dispatchInterrupt]

@[simp] theorem dispatchInterrupt_imePending (i : Nat) (s : State) : (dispatchInterrupt i s).imePending = s.imePending := by
  simp [dispatchInterrupt]

@[simp] theorem dispatchInterrupt_halted (i : Nat) (s : State) : (dispatchInterrupt i s).halted = s.halted := by
  simp [dispatchInterrupt]

@[simp] theorem dispatchInterrupt_haltBug (i : Nat) (s : State) : (dispatchInterrupt i s).haltBug = s.haltBug := by
  simp [dispatchInterrupt]

@[simp] theorem dispatchInterrupt_fault (i : Nat) (s : State) : (dispatchInterrupt i s).fault = s.fault := by
  simp [dispatchInterrupt]

@[simp] theorem dispatchInterrupt_cfg (i : Nat) (s : State) : (dispatchInterrupt i s).cfg = s.cfg := by
  simp [dispatchInterrupt]

@[simp] theorem dispatchInterrupt_env (i : Nat) (s : State) : (dispatchInterrupt i s).env = s.env := by
  simp [dispatchInterrupt]

@[simp] theorem dispatchInterrupt_cost (i : Nat) (s : State) : (dispatchInterrupt i s).cost = s.cost := by
  simp [dispatchInterrupt]

@[simp] theorem dispatchInterrupt_cycles (i : Nat) (s : State) : (dispatchInterrupt i s).cycles = s.cycles := by
  simp [dispatchInterrupt]

/-- Stores in form depend on the parts behind the bus alone. -/
theorem storesOk_sameBus {u s : State} (h : SameBus u s) : u.storesOk = s.storesOk := by
  simp only [State.storesOk, h.io, h.vram, h.wram, h.oam, h.hram, h.cram, h.cfg]

/-- A word write keeps every store in form and the bank selectors legal. -/
theorem writeWord_ok {s : State} (a v : Word) (h : s.storesOk = true) (hc : s.cart.ok = true) :
    (writeWord s a v).storesOk = true ∧ (writeWord s a v).cart.ok = true := by
  have h1 := writeByte_ok a (lo v) h hc
  exact writeByte_ok (a + 1#16) (hi v) h1.1 h1.2

/-- A push keeps every store in form and the bank selectors legal. -/
theorem push16_ok {s : State} (v : Word) (h : s.storesOk = true) (hc : s.cart.ok = true) :
    (push16 v s).storesOk = true ∧ (push16 v s).cart.ok = true :=
  writeWord_ok (s := { s with sp := s.sp - 2#16 }) (s.sp - 2#16) v h hc

/-- Trap entry keeps every store in form and the bank selectors legal. -/
theorem dispatchInterrupt_ok {s : State} (i : Nat) (h : s.storesOk = true) (hc : s.cart.ok = true) :
    (dispatchInterrupt i s).storesOk = true ∧ (dispatchInterrupt i s).cart.ok = true :=
  push16_ok (s := { s with ifr := s.ifr &&& ~~~(1#5 <<< i), ime := false }) s.pc h hc

/-! No bus write changes the timer's accumulator to a value at or above its threshold. -/

/-- The accumulator stays below the threshold across a write of an I/O register. -/
theorem ioWrite_acc_lt {s : State} (r : IoReg) (v : Byte) (h : s.timer.acc < s.timer.period) :
    (ioWrite s r v).timer.acc < (ioWrite s r v).timer.period := by
  cases r with
  | dma =>
    simp only [ioWrite]
    rw [dmaCopy_eq]
    exact h
  | div =>
    simp only [ioWrite, Timer.period] at *
    omega
  | tac =>
    simp only [ioWrite, Timer.period] at *
    have hs : (BitVec.setWidth 2 (BitVec.setWidth 3 v) : BitVec 2) = v.setWidth 2 := by
      ext i hi
      simp
    rw [hs]
    split
    · next hv => rw [hv]; exact h
    · simp only [threshold]
      split <;> omega
  | _ => exact h

/-- The accumulator stays below the threshold across a bus write. -/
theorem writeByte_acc_lt {s : State} (a : Word) (v : Byte) (h : s.timer.acc < s.timer.period) :
    (writeByte s a v).timer.acc < (writeByte s a v).timer.period := by
  unfold writeByte
  cases regionOf a with
  | cartRam =>
    have ht : (cartWriteRam s a v).timer = s.timer := by
      unfold cartWriteRam
      cases ramTarget s.cart s.cfg a <;> rfl
    simp only [ht]
    exact h
  | io =>
    simp only
    exact ioWrite_acc_lt (ioRegOf (a.toNat - 0xFF00)) v h
  | _ => exact h

/-- The accumulator stays below the threshold across a word write. -/
theorem writeWord_acc_lt {s : State} (a v : Word) (h : s.timer.acc < s.timer.period) :
    (writeWord s a v).timer.acc < (writeWord s a v).timer.period :=
  writeByte_acc_lt _ _ (writeByte_acc_lt _ _ h)

/-- `CART_VARIANT` survives a bus write. -/
theorem writeByte_variant (s : State) (a : Word) (v : Byte) : (writeByte s a v).cart.variant = s.cart.variant := by
  unfold writeByte
  cases regionOf a with
  | rom =>
    simp only [cartWriteRom, Cart.control]
    cases s.cart <;> rfl
  | cartRam =>
    simp only [cartWriteRam]
    cases ramTarget s.cart s.cfg a with
    | rtc i =>
      simp only [Cart.rtcWrite]
      cases s.cart <;> rfl
    | _ => rfl
  | io =>
    simp only
    cases ioRegOf (a.toNat - 0xFF00) with
    | dma =>
      simp only [ioWrite]
      rw [dmaCopy_eq]
    | _ => rfl
  | _ => rfl

end Sys2Proof.Machine
end

