-- ==== Sys2Proof/Laws/Devices.lean ====
section
/-! SUPPORT. What the timer tick, the notification and the interrupt step can do. -/

namespace Sys2Proof.Machine

@[simp] theorem timaIncrement_regs (s : State) : (timaIncrement s).regs = s.regs := by
  unfold timaIncrement; split <;> rfl

@[simp] theorem timaIncrements_regs (n : Nat) (s : State) : (timaIncrements n s).regs = s.regs := by
  induction n generalizing s with
  | zero => rfl
  | succ n ih => rw [timaIncrements, ih, timaIncrement_regs]

@[simp] theorem timerTick_regs (k : Nat) (s : State) : (timerTick k s).regs = s.regs := by
  unfold timerTick; split
  · rw [timaIncrements_regs]
  · rfl

@[simp] theorem timaIncrement_f (s : State) : (timaIncrement s).f = s.f := by
  unfold timaIncrement; split <;> rfl

@[simp] theorem timaIncrements_f (n : Nat) (s : State) : (timaIncrements n s).f = s.f := by
  induction n generalizing s with
  | zero => rfl
  | succ n ih => rw [timaIncrements, ih, timaIncrement_f]

@[simp] theorem timerTick_f (k : Nat) (s : State) : (timerTick k s).f = s.f := by
  unfold timerTick; split
  · rw [timaIncrements_f]
  · rfl

@[simp] theorem timaIncrement_sp (s : State) : (timaIncrement s).sp = s.sp := by
  unfold timaIncrement; split <;> rfl

@[simp] theorem timaIncrements_sp (n : Nat) (s : State) : (timaIncrements n s).sp = s.sp := by
  induction n generalizing s with
  | zero => rfl
  | succ n ih => rw [timaIncrements, ih, timaIncrement_sp]

@[simp] theorem timerTick_sp (k : Nat) (s : State) : (timerTick k s).sp = s.sp := by
  unfold timerTick; split
  · rw [timaIncrements_sp]
  · rfl

@[simp] theorem timaIncrement_pc (s : State) : (timaIncrement s).pc = s.pc := by
  unfold timaIncrement; split <;> rfl

@[simp] theorem timaIncrements_pc (n : Nat) (s : State) : (timaIncrements n s).pc = s.pc := by
  induction n generalizing s with
  | zero => rfl
  | succ n ih => rw [timaIncrements, ih, timaIncrement_pc]

@[simp] theorem timerTick_pc (k : Nat) (s : State) : (timerTick k s).pc = s.pc := by
  unfold timerTick; split
  · rw [timaIncrements_pc]
  · rfl

@[simp] theorem timaIncrement_ime (s : State) : (timaIncrement s).ime = s.ime := by
  unfold timaIncrement; split <;> rfl

@[simp] theorem timaIncrements_ime (n : Nat) (s : State) : (timaIncrements n s).ime = s.ime := by
  induction n generalizing s with
  | zero => rfl
  | succ n ih => rw [timaIncrements, ih, timaIncrement_ime]

@[simp] theorem timerTick_ime (k : Nat) (s : State) : (timerTick k s).ime = s.ime := by
  unfold timerTick; split
  · rw [timaIncrements_ime]
  · rfl

@[simp] theorem timaIncrement_imePending (s : State) : (timaIncrement s).imePending = s.imePending := by
  unfold timaIncrement; split <;> rfl

@[simp] theorem timaIncrements_imePending (n : Nat) (s : State) : (timaIncrements n s).imePending = s.imePending := by
  induction n generalizing s with
  | zero => rfl
  | succ n ih => rw [timaIncrements, ih, timaIncrement_imePending]

@[simp] theorem timerTick_imePending (k : Nat) (s : State) : (timerTick k s).imePending = s.imePending := by
  unfold timerTick; split
  · rw [timaIncrements_imePending]
  · rfl

@[simp] theorem timaIncrement_halted (s : State) : (timaIncrement s).halted = s.halted := by
  unfold timaIncrement; split <;> rfl

@[simp] theorem timaIncrements_halted (n : Nat) (s : State) : (timaIncrements n s).halted = s.halted := by
  induction n generalizing s with
  | zero => rfl
  | succ n ih => rw [timaIncrements, ih, timaIncrement_halted]

@[simp] theorem timerTick_halted (k : Nat) (s : State) : (timerTick k s).halted = s.halted := by
  unfold timerTick; split
  · rw [timaIncrements_halted]
  · rfl

@[simp] theorem timaIncrement_haltBug (s : State) : (timaIncrement s).haltBug = s.haltBug := by
  unfold timaIncrement; split <;> rfl

@[simp] theorem timaIncrements_haltBug (n : Nat) (s : State) : (timaIncrements n s).haltBug = s.haltBug := by
  induction n generalizing s with
  | zero => rfl
  | succ n ih => rw [timaIncrements, ih, timaIncrement_haltBug]

@[simp] theorem timerTick_haltBug (k : Nat) (s : State) : (timerTick k s).haltBug = s.haltBug := by
  unfold timerTick; split
  · rw [timaIncrements_haltBug]
  · rfl

@[simp] theorem timaIncrement_fault (s : State) : (timaIncrement s).fault = s.fault := by
  unfold timaIncrement; split <;> rfl

@[simp] theorem timaIncrements_fault (n : Nat) (s : State) : (timaIncrements n s).fault = s.fault := by
  induction n generalizing s with
  | zero => rfl
  | succ n ih => rw [timaIncrements, ih, timaIncrement_fault]

@[simp] theorem timerTick_fault (k : Nat) (s : State) : (timerTick k s).fault = s.fault := by
  unfold timerTick; split
  · rw [timaIncrements_fault]
  · rfl

@[simp] theorem timaIncrement_ie (s : State) : (timaIncrement s).ie = s.ie := by
  unfold timaIncrement; split <;> rfl

@[simp] theorem timaIncrements_ie (n : Nat) (s : State) : (timaIncrements n s).ie = s.ie := by
  induction n generalizing s with
  | zero => rfl
  | succ n ih => rw [timaIncrements, ih, timaIncrement_ie]

@[simp] theorem timerTick_ie (k : Nat) (s : State) : (timerTick k s).ie = s.ie := by
  unfold timerTick; split
  · rw [timaIncrements_ie]
  · rfl

@[simp] theorem timaIncrement_dma (s : State) : (timaIncrement s).dma = s.dma := by
  unfold timaIncrement; split <;> rfl

@[simp] theorem timaIncrements_dma (n : Nat) (s : State) : (timaIncrements n s).dma = s.dma := by
  induction n generalizing s with
  | zero => rfl
  | succ n ih => rw [timaIncrements, ih, timaIncrement_dma]

@[simp] theorem timerTick_dma (k : Nat) (s : State) : (timerTick k s).dma = s.dma := by
  unfold timerTick; split
  · rw [timaIncrements_dma]
  · rfl

@[simp] theorem timaIncrement_vbk (s : State) : (timaIncrement s).vbk = s.vbk := by
  unfold timaIncrement; split <;> rfl

@[simp] theorem timaIncrements_vbk (n : Nat) (s : State) : (timaIncrements n s).vbk = s.vbk := by
  induction n generalizing s with
  | zero => rfl
  | succ n ih => rw [timaIncrements, ih, timaIncrement_vbk]

@[simp] theorem timerTick_vbk (k : Nat) (s : State) : (timerTick k s).vbk = s.vbk := by
  unfold timerTick; split
  · rw [timaIncrements_vbk]
  · rfl

@[simp] theorem timaIncrement_svbk (s : State) : (timaIncrement s).svbk = s.svbk := by
  unfold timaIncrement; split <;> rfl

@[simp] theorem timaIncrements_svbk (n : Nat) (s : State) : (timaIncrements n s).svbk = s.svbk := by
  induction n generalizing s with
  | zero => rfl
  | succ n ih => rw [timaIncrements, ih, timaIncrement_svbk]

@[simp] theorem timerTick_svbk (k : Nat) (s : State) : (timerTick k s).svbk = s.svbk := by
  unfold timerTick; split
  · rw [timaIncrements_svbk]
  · rfl

@[simp] theorem timaIncrement_io (s : State) : (timaIncrement s).io = s.io := by
  unfold timaIncrement; split <;> rfl

@[simp] theorem timaIncrements_io (n : Nat) (s : State) : (timaIncrements n s).io = s.io := by
  induction n generalizing s with
  | zero => rfl
  | succ n ih => rw [timaIncrements, ih, timaIncrement_io]

@[simp] theorem timerTick_io (k : Nat) (s : State) : (timerTick k s).io = s.io := by
  unfold timerTick; split
  · rw [timaIncrements_io]
  · rfl

@[simp] theorem timaIncrement_vram (s : State) : (timaIncrement s).vram = s.vram := by
  unfold timaIncrement; split <;> rfl

@[simp] theorem timaIncrements_vram (n : Nat) (s : State) : (timaIncrements n s).vram = s.vram := by
  induction n generalizing s with
  | zero => rfl
  | succ n ih => rw [timaIncrements, ih, timaIncrement_vram]

@[simp] theorem timerTick_vram (k : Nat) (s : State) : (timerTick k s).vram = s.vram := by
  unfold timerTick; split
  · rw [timaIncrements_vram]
  · rfl

@[simp] theorem timaIncrement_wram (s : State) : (timaIncrement s).wram = s.wram := by
  unfold timaIncrement; split <;> rfl

@[simp] theorem timaIncrements_wram (n : Nat) (s : State) : (timaIncrements n s).wram = s.wram := by
  induction n generalizing s with
  | zero => rfl
  | succ n ih => rw [timaIncrements, ih, timaIncrement_wram]

@[simp] theorem timerTick_wram (k : Nat) (s : State) : (timerTick k s).wram = s.wram := by
  unfold timerTick; split
  · rw [timaIncrements_wram]
  · rfl

@[simp] theorem timaIncrement_oam (s : State) : (timaIncrement s).oam = s.oam := by
  unfold timaIncrement; split <;> rfl

@[simp] theorem timaIncrements_oam (n : Nat) (s : State) : (timaIncrements n s).oam = s.oam := by
  induction n generalizing s with
  | zero => rfl
  | succ n ih => rw [timaIncrements, ih, timaIncrement_oam]

@[simp] theorem timerTick_oam (k : Nat) (s : State) : (timerTick k s).oam = s.oam := by
  unfold timerTick; split
  · rw [timaIncrements_oam]
  · rfl

@[simp] theorem timaIncrement_hram (s : State) : (timaIncrement s).hram = s.hram := by
  unfold timaIncrement; split <;> rfl

@[simp] theorem timaIncrements_hram (n : Nat) (s : State) : (timaIncrements n s).hram = s.hram := by
  induction n generalizing s with
  | zero => rfl
  | succ n ih => rw [timaIncrements, ih, timaIncrement_hram]

@[simp] theorem timerTick_hram (k : Nat) (s : State) : (timerTick k s).hram = s.hram := by
  unfold timerTick; split
  · rw [timaIncrements_hram]
  · rfl

@[simp] theorem timaIncrement_cram (s : State) : (timaIncrement s).cram = s.cram := by
  unfold timaIncrement; split <;> rfl

@[simp] theorem timaIncrements_cram (n : Nat) (s : State) : (timaIncrements n s).cram = s.cram := by
  induction n generalizing s with
  | zero => rfl
  | succ n ih => rw [timaIncrements, ih, timaIncrement_cram]

@[simp] theorem timerTick_cram (k : Nat) (s : State) : (timerTick k s).cram = s.cram := by
  unfold timerTick; split
  · rw [timaIncrements_cram]
  · rfl

@[simp] theorem timaIncrement_cart (s : State) : (timaIncrement s).cart = s.cart := by
  unfold timaIncrement; split <;> rfl

@[simp] theorem timaIncrements_cart (n : Nat) (s : State) : (timaIncrements n s).cart = s.cart := by
  induction n generalizing s with
  | zero => rfl
  | succ n ih => rw [timaIncrements, ih, timaIncrement_cart]

@[simp] theorem timerTick_cart (k : Nat) (s : State) : (timerTick k s).cart = s.cart := by
  unfold timerTick; split
  · rw [timaIncrements_cart]
  · rfl

@[simp] theorem timaIncrement_cfg (s : State) : (timaIncrement s).cfg = s.cfg := by
  unfold timaIncrement; split <;> rfl

@[simp] theorem timaIncrements_cfg (n : Nat) (s : State) : (timaIncrements n s).cfg = s.cfg := by
  induction n generalizing s with
  | zero => rfl
  | succ n ih => rw [timaIncrements, ih, timaIncrement_cfg]

@[simp] theorem timerTick_cfg (k : Nat) (s : State) : (timerTick k s).cfg = s.cfg := by
  unfold timerTick; split
  · rw [timaIncrements_cfg]
  · rfl

@[simp] theorem timaIncrement_env (s : State) : (timaIncrement s).env = s.env := by
  unfold timaIncrement; split <;> rfl

@[simp] theorem timaIncrements_env (n : Nat) (s : State) : (timaIncrements n s).env = s.env := by
  induction n generalizing s with
  | zero => rfl
  | succ n ih => rw [timaIncrements, ih, timaIncrement_env]

@[simp] theorem timerTick_env (k : Nat) (s : State) : (timerTick k s).env = s.env := by
  unfold timerTick; split
  · rw [timaIncrements_env]
  · rfl

@[simp] theorem timaIncrement_cost (s : State) : (timaIncrement s).cost = s.cost := by
  unfold timaIncrement; split <;> rfl

@[simp] theorem timaIncrements_cost (n : Nat) (s : State) : (timaIncrements n s).cost = s.cost := by
  induction n generalizing s with
  | zero => rfl
  | succ n ih => rw [timaIncrements, ih, timaIncrement_cost]

@[simp] theorem timerTick_cost (k : Nat) (s : State) : (timerTick k s).cost = s.cost := by
  unfold timerTick; split
  · rw [timaIncrements_cost]
  · rfl

@[simp] theorem timaIncrement_cycles (s : State) : (timaIncrement s).cycles = s.cycles := by
  unfold timaIncrement; split <;> rfl

@[simp] theorem timaIncrements_cycles (n : Nat) (s : State) : (timaIncrements n s).cycles = s.cycles := by
  induction n generalizing s with
  | zero => rfl
  | succ n ih => rw [timaIncrements, ih, timaIncrement_cycles]

@[simp] theorem timerTick_cycles (k : Nat) (s : State) : (timerTick k s).cycles = s.cycles := by
  unfold timerTick; split
  · rw [timaIncrements_cycles]
  · rfl

/-- An increment moves TIMA alone among the timer's fields. -/
theorem timaIncrement_timer (s : State) : (timaIncrement s).timer = { s.timer with tima := (timaIncrement s).timer.tima } := by
  unfold timaIncrement; split <;> rfl

/-- So do any number of increments. -/
theorem timaIncrements_timer (n : Nat) (s : State) :
    (timaIncrements n s).timer = { s.timer with tima := (timaIncrements n s).timer.tima } := by
  induction n generalizing s with
  | zero => rfl
  | succ n ih => rw [timaIncrements, ih, timaIncrement_timer]

/-- A threshold is positive. -/
theorem threshold_pos (x : BitVec 2) : 0 < threshold x := by
  unfold threshold; split <;> omega

/-- After a tick the accumulator is below its threshold (10_state.md R36), if it was so before. -/
theorem timerTick_acc_lt (k : Nat) {s : State} (h : s.timer.acc < s.timer.period) :
    (timerTick k s).timer.acc < (timerTick k s).timer.period := by
  unfold timerTick
  split
  · rw [timaIncrements_timer]
    exact Nat.mod_lt _ (threshold_pos _)
  · exact h

@[simp] theorem envByte_regs (s : State) (u : BitVec 7 × Byte) : (envByte s u).regs = s.regs := by
  unfold envByte; split <;> rfl

@[simp] theorem envBytes_regs (l : List (BitVec 7 × Byte)) (s : State) : (l.foldl envByte s).regs = s.regs := by
  induction l generalizing s with
  | nil => rfl
  | cons u l ih => rw [List.foldl_cons, ih, envByte_regs]

@[simp] theorem requestIf_regs (b : Bool) (i : Nat) (s : State) : (requestIf b i s).regs = s.regs := by
  unfold requestIf; split <;> rfl

@[simp] theorem applyAnswer_regs (e : EnvAnswer) (s : State) : (applyAnswer e s).regs = s.regs := by
  simp [applyAnswer]

@[simp] theorem envNotify_regs (s : State) : (envNotify s).regs = s.regs := by
  unfold envNotify; split <;> simp

@[simp] theorem envByte_f (s : State) (u : BitVec 7 × Byte) : (envByte s u).f = s.f := by
  unfold envByte; split <;> rfl

@[simp] theorem envBytes_f (l : List (BitVec 7 × Byte)) (s : State) : (l.foldl envByte s).f = s.f := by
  induction l generalizing s with
  | nil => rfl
  | cons u l ih => rw [List.foldl_cons, ih, envByte_f]

@[simp] theorem requestIf_f (b : Bool) (i : Nat) (s : State) : (requestIf b i s).f = s.f := by
  unfold requestIf; split <;> rfl

@[simp] theorem applyAnswer_f (e : EnvAnswer) (s : State) : (applyAnswer e s).f = s.f := by
  simp [applyAnswer]

@[simp] theorem envNotify_f (s : State) : (envNotify s).f = s.f := by
  unfold envNotify; split <;> simp

@[simp] theorem envByte_sp (s : State) (u : BitVec 7 × Byte) : (envByte s u).sp = s.sp := by
  unfold envByte; split <;> rfl

@[simp] theorem envBytes_sp (l : List (BitVec 7 × Byte)) (s : State) : (l.foldl envByte s).sp = s.sp := by
  induction l generalizing s with
  | nil => rfl
  | cons u l ih => rw [List.foldl_cons, ih, envByte_sp]

@[simp] theorem requestIf_sp (b : Bool) (i : Nat) (s : State) : (requestIf b i s).sp = s.sp := by
  unfold requestIf; split <;> rfl

@[simp] theorem applyAnswer_sp (e : EnvAnswer) (s : State) : (applyAnswer e s).sp = s.sp := by
  simp [applyAnswer]

@[simp] theorem envNotify_sp (s : State) : (envNotify s).sp = s.sp := by
  unfold envNotify; split <;> simp

@[simp] theorem envByte_pc (s : State) (u : BitVec 7 × Byte) : (envByte s u).pc = s.pc := by
  unfold envByte; split <;> rfl

@[simp] theorem envBytes_pc (l : List (BitVec 7 × Byte)) (s : State) : (l.foldl envByte s).pc = s.pc := by
  induction l generalizing s with
  | nil => rfl
  | cons u l ih => rw [List.foldl_cons, ih, envByte_pc]

@[simp] theorem requestIf_pc (b : Bool) (i : Nat) (s : State) : (requestIf b i s).pc = s.pc := by
  unfold requestIf; split <;> rfl

@[simp] theorem applyAnswer_pc (e : EnvAnswer) (s : State) : (applyAnswer e s).pc = s.pc := by
  simp [applyAnswer]

@[simp] theorem envNotify_pc (s : State) : (envNotify s).pc = s.pc := by
  unfold envNotify; split <;> simp

@[simp] theorem envByte_ime (s : State) (u : BitVec 7 × Byte) : (envByte s u).ime = s.ime := by
  unfold envByte; split <;> rfl

@[simp] theorem envBytes_ime (l : List (BitVec 7 × Byte)) (s : State) : (l.foldl envByte s).ime = s.ime := by
  induction l generalizing s with
  | nil => rfl
  | cons u l ih => rw [List.foldl_cons, ih, envByte_ime]

@[simp] theorem requestIf_ime (b : Bool) (i : Nat) (s : State) : (requestIf b i s).ime = s.ime := by
  unfold requestIf; split <;> rfl

@[simp] theorem applyAnswer_ime (e : EnvAnswer) (s : State) : (applyAnswer e s).ime = s.ime := by
  simp [applyAnswer]

@[simp] theorem envNotify_ime (s : State) : (envNotify s).ime = s.ime := by
  unfold envNotify; split <;> simp

@[simp] theorem envByte_imePending (s : State) (u : BitVec 7 × Byte) : (envByte s u).imePending = s.imePending := by
  unfold envByte; split <;> rfl

@[simp] theorem envBytes_imePending (l : List (BitVec 7 × Byte)) (s : State) : (l.foldl envByte s).imePending = s.imePending := by
  induction l generalizing s with
  | nil => rfl
  | cons u l ih => rw [List.foldl_cons, ih, envByte_imePending]

@[simp] theorem requestIf_imePending (b : Bool) (i : Nat) (s : State) : (requestIf b i s).imePending = s.imePending := by
  unfold requestIf; split <;> rfl

@[simp] theorem applyAnswer_imePending (e : EnvAnswer) (s : State) : (applyAnswer e s).imePending = s.imePending := by
  simp [applyAnswer]

@[simp] theorem envNotify_imePending (s : State) : (envNotify s).imePending = s.imePending := by
  unfold envNotify; split <;> simp

@[simp] theorem envByte_halted (s : State) (u : BitVec 7 × Byte) : (envByte s u).halted = s.halted := by
  unfold envByte; split <;> rfl

@[simp] theorem envBytes_halted (l : List (BitVec 7 × Byte)) (s : State) : (l.foldl envByte s).halted = s.halted := by
  induction l generalizing s with
  | nil => rfl
  | cons u l ih => rw [List.foldl_cons, ih, envByte_halted]

@[simp] theorem requestIf_halted (b : Bool) (i : Nat) (s : State) : (requestIf b i s).halted = s.halted := by
  unfold requestIf; split <;> rfl

@[simp] theorem applyAnswer_halted (e : EnvAnswer) (s : State) : (applyAnswer e s).halted = s.halted := by
  simp [applyAnswer]

@[simp] theorem envNotify_halted (s : State) : (envNotify s).halted = s.halted := by
  unfold envNotify; split <;> simp

@[simp] theorem envByte_haltBug (s : State) (u : BitVec 7 × Byte) : (envByte s u).haltBug = s.haltBug := by
  unfold envByte; split <;> rfl

@[simp] theorem envBytes_haltBug (l : List (BitVec 7 × Byte)) (s : State) : (l.foldl envByte s).haltBug = s.haltBug := by
  induction l generalizing s with
  | nil => rfl
  | cons u l ih => rw [List.foldl_cons, ih, envByte_haltBug]

@[simp] theorem requestIf_haltBug (b : Bool) (i : Nat) (s : State) : (requestIf b i s).haltBug = s.haltBug := by
  unfold requestIf; split <;> rfl

@[simp] theorem applyAnswer_haltBug (e : EnvAnswer) (s : State) : (applyAnswer e s).haltBug = s.haltBug := by
  simp [applyAnswer]

@[simp] theorem envNotify_haltBug (s : State) : (envNotify s).haltBug = s.haltBug := by
  unfold envNotify; split <;> simp

@[simp] theorem envByte_fault (s : State) (u : BitVec 7 × Byte) : (envByte s u).fault = s.fault := by
  unfold envByte; split <;> rfl

@[simp] theorem envBytes_fault (l : List (BitVec 7 × Byte)) (s : State) : (l.foldl envByte s).fault = s.fault := by
  induction l generalizing s with
  | nil => rfl
  | cons u l ih => rw [List.foldl_cons, ih, envByte_fault]

@[simp] theorem requestIf_fault (b : Bool) (i : Nat) (s : State) : (requestIf b i s).fault = s.fault := by
  unfold requestIf; split <;> rfl

@[simp] theorem applyAnswer_fault (e : EnvAnswer) (s : State) : (applyAnswer e s).fault = s.fault := by
  simp [applyAnswer]

@[simp] theorem envNotify_fault (s : State) : (envNotify s).fault = s.fault := by
  unfold envNotify; split <;> simp

@[simp] theorem envByte_ie (s : State) (u : BitVec 7 × Byte) : (envByte s u).ie = s.ie := by
  unfold envByte; split <;> rfl

@[simp] theorem envBytes_ie (l : List (BitVec 7 × Byte)) (s : State) : (l.foldl envByte s).ie = s.ie := by
  induction l generalizing s with
  | nil => rfl
  | cons u l ih => rw [List.foldl_cons, ih, envByte_ie]

@[simp] theorem requestIf_ie (b : Bool) (i : Nat) (s : State) : (requestIf b i s).ie = s.ie := by
  unfold requestIf; split <;> rfl

@[simp] theorem applyAnswer_ie (e : EnvAnswer) (s : State) : (applyAnswer e s).ie = s.ie := by
  simp [applyAnswer]

@[simp] theorem envNotify_ie (s : State) : (envNotify s).ie = s.ie := by
  unfold envNotify; split <;> simp

@[simp] theorem envByte_timer (s : State) (u : BitVec 7 × Byte) : (envByte s u).timer = s.timer := by
  unfold envByte; split <;> rfl

@[simp] theorem envBytes_timer (l : List (BitVec 7 × Byte)) (s : State) : (l.foldl envByte s).timer = s.timer := by
  induction l generalizing s with
  | nil => rfl
  | cons u l ih => rw [List.foldl_cons, ih, envByte_timer]

@[simp] theorem requestIf_timer (b : Bool) (i : Nat) (s : State) : (requestIf b i s).timer = s.timer := by
  unfold requestIf; split <;> rfl

@[simp] theorem applyAnswer_timer (e : EnvAnswer) (s : State) : (applyAnswer e s).timer = s.timer := by
  simp [applyAnswer]

@[simp] theorem envNotify_timer (s : State) : (envNotify s).timer = s.timer := by
  unfold envNotify; split <;> simp

@[simp] theorem envByte_dma (s : State) (u : BitVec 7 × Byte) : (envByte s u).dma = s.dma := by
  unfold envByte; split <;> rfl

@[simp] theorem envBytes_dma (l : List (BitVec 7 × Byte)) (s : State) : (l.foldl envByte s).dma = s.dma := by
  induction l generalizing s with
  | nil => rfl
  | cons u l ih => rw [List.foldl_cons, ih, envByte_dma]

@[simp] theorem requestIf_dma (b : Bool) (i : Nat) (s : State) : (requestIf b i s).dma = s.dma := by
  unfold requestIf; split <;> rfl

@[simp] theorem applyAnswer_dma (e : EnvAnswer) (s : State) : (applyAnswer e s).dma = s.dma := by
  simp [applyAnswer]

@[simp] theorem envNotify_dma (s : State) : (envNotify s).dma = s.dma := by
  unfold envNotify; split <;> simp

@[simp] theorem envByte_vbk (s : State) (u : BitVec 7 × Byte) : (envByte s u).vbk = s.vbk := by
  unfold envByte; split <;> rfl

@[simp] theorem envBytes_vbk (l : List (BitVec 7 × Byte)) (s : State) : (l.foldl envByte s).vbk = s.vbk := by
  induction l generalizing s with
  | nil => rfl
  | cons u l ih => rw [List.foldl_cons, ih, envByte_vbk]

@[simp] theorem requestIf_vbk (b : Bool) (i : Nat) (s : State) : (requestIf b i s).vbk = s.vbk := by
  unfold requestIf; split <;> rfl

@[simp] theorem applyAnswer_vbk (e : EnvAnswer) (s : State) : (applyAnswer e s).vbk = s.vbk := by
  simp [applyAnswer]

@[simp] theorem envNotify_vbk (s : State) : (envNotify s).vbk = s.vbk := by
  unfold envNotify; split <;> simp

@[simp] theorem envByte_svbk (s : State) (u : BitVec 7 × Byte) : (envByte s u).svbk = s.svbk := by
  unfold envByte; split <;> rfl

@[simp] theorem envBytes_svbk (l : List (BitVec 7 × Byte)) (s : State) : (l.foldl envByte s).svbk = s.svbk := by
  induction l generalizing s with
  | nil => rfl
  | cons u l ih => rw [List.foldl_cons, ih, envByte_svbk]

@[simp] theorem requestIf_svbk (b : Bool) (i : Nat) (s : State) : (requestIf b i s).svbk = s.svbk := by
  unfold requestIf; split <;> rfl

@[simp] theorem applyAnswer_svbk (e : EnvAnswer) (s : State) : (applyAnswer e s).svbk = s.svbk := by
  simp [applyAnswer]

@[simp] theorem envNotify_svbk (s : State) : (envNotify s).svbk = s.svbk := by
  unfold envNotify; split <;> simp

@[simp] theorem envByte_vram (s : State) (u : BitVec 7 × Byte) : (envByte s u).vram = s.vram := by
  unfold envByte; split <;> rfl

@[simp] theorem envBytes_vram (l : List (BitVec 7 × Byte)) (s : State) : (l.foldl envByte s).vram = s.vram := by
  induction l generalizing s with
  | nil => rfl
  | cons u l ih => rw [List.foldl_cons, ih, envByte_vram]

@[simp] theorem requestIf_vram (b : Bool) (i : Nat) (s : State) : (requestIf b i s).vram = s.vram := by
  unfold requestIf; split <;> rfl

@[simp] theorem applyAnswer_vram (e : EnvAnswer) (s : State) : (applyAnswer e s).vram = s.vram := by
  simp [applyAnswer]

@[simp] theorem envNotify_vram (s : State) : (envNotify s).vram = s.vram := by
  unfold envNotify; split <;> simp

@[simp] theorem envByte_wram (s : State) (u : BitVec 7 × Byte) : (envByte s u).wram = s.wram := by
  unfold envByte; split <;> rfl

@[simp] theorem envBytes_wram (l : List (BitVec 7 × Byte)) (s : State) : (l.foldl envByte s).wram = s.wram := by
  induction l generalizing s with
  | nil => rfl
  | cons u l ih => rw [List.foldl_cons, ih, envByte_wram]

@[simp] theorem requestIf_wram (b : Bool) (i : Nat) (s : State) : (requestIf b i s).wram = s.wram := by
  unfold requestIf; split <;> rfl

@[simp] theorem applyAnswer_wram (e : EnvAnswer) (s : State) : (applyAnswer e s).wram = s.wram := by
  simp [applyAnswer]

@[simp] theorem envNotify_wram (s : State) : (envNotify s).wram = s.wram := by
  unfold envNotify; split <;> simp

@[simp] theorem envByte_oam (s : State) (u : BitVec 7 × Byte) : (envByte s u).oam = s.oam := by
  unfold envByte; split <;> rfl

@[simp] theorem envBytes_oam (l : List (BitVec 7 × Byte)) (s : State) : (l.foldl envByte s).oam = s.oam := by
  induction l generalizing s with
  | nil => rfl
  | cons u l ih => rw [List.foldl_cons, ih, envByte_oam]

@[simp] theorem requestIf_oam (b : Bool) (i : Nat) (s : State) : (requestIf b i s).oam = s.oam := by
  unfold requestIf; split <;> rfl

@[simp] theorem applyAnswer_oam (e : EnvAnswer) (s : State) : (applyAnswer e s).oam = s.oam := by
  simp [applyAnswer]

@[simp] theorem envNotify_oam (s : State) : (envNotify s).oam = s.oam := by
  unfold envNotify; split <;> simp

@[simp] theorem envByte_hram (s : State) (u : BitVec 7 × Byte) : (envByte s u).hram = s.hram := by
  unfold envByte; split <;> rfl

@[simp] theorem envBytes_hram (l : List (BitVec 7 × Byte)) (s : State) : (l.foldl envByte s).hram = s.hram := by
  induction l generalizing s with
  | nil => rfl
  | cons u l ih => rw [List.foldl_cons, ih, envByte_hram]

@[simp] theorem requestIf_hram (b : Bool) (i : Nat) (s : State) : (requestIf b i s).hram = s.hram := by
  unfold requestIf; split <;> rfl

@[simp] theorem applyAnswer_hram (e : EnvAnswer) (s : State) : (applyAnswer e s).hram = s.hram := by
  simp [applyAnswer]

@[simp] theorem envNotify_hram (s : State) : (envNotify s).hram = s.hram := by
  unfold envNotify; split <;> simp

@[simp] theorem envByte_cram (s : State) (u : BitVec 7 × Byte) : (envByte s u).cram = s.cram := by
  unfold envByte; split <;> rfl

@[simp] theorem envBytes_cram (l : List (BitVec 7 × Byte)) (s : State) : (l.foldl envByte s).cram = s.cram := by
  induction l generalizing s with
  | nil => rfl
  | cons u l ih => rw [List.foldl_cons, ih, envByte_cram]

@[simp] theorem requestIf_cram (b : Bool) (i : Nat) (s : State) : (requestIf b i s).cram = s.cram := by
  unfold requestIf; split <;> rfl

@[simp] theorem applyAnswer_cram (e : EnvAnswer) (s : State) : (applyAnswer e s).cram = s.cram := by
  simp [applyAnswer]

@[simp] theorem envNotify_cram (s : State) : (envNotify s).cram = s.cram := by
  unfold envNotify; split <;> simp

@[simp] theorem envByte_cart (s : State) (u : BitVec 7 × Byte) : (envByte s u).cart = s.cart := by
  unfold envByte; split <;> rfl

@[simp] theorem envBytes_cart (l : List (BitVec 7 × Byte)) (s : State) : (l.foldl envByte s).cart = s.cart := by
  induction l generalizing s with
  | nil => rfl
  | cons u l ih => rw [List.foldl_cons, ih, envByte_cart]

@[simp] theorem requestIf_cart (b : Bool) (i : Nat) (s : State) : (requestIf b i s).cart = s.cart := by
  unfold requestIf; split <;> rfl

@[simp] theorem applyAnswer_cart (e : EnvAnswer) (s : State) : (applyAnswer e s).cart = s.cart := by
  simp [applyAnswer]

@[simp] theorem envNotify_cart (s : State) : (envNotify s).cart = s.cart := by
  unfold envNotify; split <;> simp

@[simp] theorem envByte_cfg (s : State) (u : BitVec 7 × Byte) : (envByte s u).cfg = s.cfg := by
  unfold envByte; split <;> rfl

@[simp] theorem envBytes_cfg (l : List (BitVec 7 × Byte)) (s : State) : (l.foldl envByte s).cfg = s.cfg := by
  induction l generalizing s with
  | nil => rfl
  | cons u l ih => rw [List.foldl_cons, ih, envByte_cfg]

@[simp] theorem requestIf_cfg (b : Bool) (i : Nat) (s : State) : (requestIf b i s).cfg = s.cfg := by
  unfold requestIf; split <;> rfl

@[simp] theorem applyAnswer_cfg (e : EnvAnswer) (s : State) : (applyAnswer e s).cfg = s.cfg := by
  simp [applyAnswer]

@[simp] theorem envNotify_cfg (s : State) : (envNotify s).cfg = s.cfg := by
  unfold envNotify; split <;> simp

@[simp] theorem envByte_cost (s : State) (u : BitVec 7 × Byte) : (envByte s u).cost = s.cost := by
  unfold envByte; split <;> rfl

@[simp] theorem envBytes_cost (l : List (BitVec 7 × Byte)) (s : State) : (l.foldl envByte s).cost = s.cost := by
  induction l generalizing s with
  | nil => rfl
  | cons u l ih => rw [List.foldl_cons, ih, envByte_cost]

@[simp] theorem requestIf_cost (b : Bool) (i : Nat) (s : State) : (requestIf b i s).cost = s.cost := by
  unfold requestIf; split <;> rfl

@[simp] theorem applyAnswer_cost (e : EnvAnswer) (s : State) : (applyAnswer e s).cost = s.cost := by
  simp [applyAnswer]

@[simp] theorem envNotify_cost (s : State) : (envNotify s).cost = s.cost := by
  unfold envNotify; split <;> simp

@[simp] theorem envByte_cycles (s : State) (u : BitVec 7 × Byte) : (envByte s u).cycles = s.cycles := by
  unfold envByte; split <;> rfl

@[simp] theorem envBytes_cycles (l : List (BitVec 7 × Byte)) (s : State) : (l.foldl envByte s).cycles = s.cycles := by
  induction l generalizing s with
  | nil => rfl
  | cons u l ih => rw [List.foldl_cons, ih, envByte_cycles]

@[simp] theorem requestIf_cycles (b : Bool) (i : Nat) (s : State) : (requestIf b i s).cycles = s.cycles := by
  unfold requestIf; split <;> rfl

@[simp] theorem applyAnswer_cycles (e : EnvAnswer) (s : State) : (applyAnswer e s).cycles = s.cycles := by
  simp [applyAnswer]

@[simp] theorem envNotify_cycles (s : State) : (envNotify s).cycles = s.cycles := by
  unfold envNotify; split <;> simp

@[simp] theorem requestIf_io (b : Bool) (i : Nat) (s : State) : (requestIf b i s).io = s.io := by
  unfold requestIf; split <;> rfl

@[simp] theorem applyAnswer_io (e : EnvAnswer) (s : State) : (applyAnswer e s).io = (e.bytes.foldl envByte s).io := by
  simp [applyAnswer]

/-- A collaborator's byte keeps every store in form. -/
theorem envByte_storesOk {s : State} (u : BitVec 7 × Byte) (h : s.storesOk = true) : (envByte s u).storesOk = true := by
  unfold envByte
  split
  · next k hk =>
    have hu := u.1.isLt
    have := ioRegOf_device hk
    rw [storesOk_iff] at *
    obtain ⟨h1, h2⟩ := h
    exact ⟨⟨Memory.wf_write h1.1 _ _, Memory.within_write h1.2.1 (by omega) _,
      Memory.all_write h1.2.2 (by simp [this, hk])⟩, h2⟩
  · exact h

theorem envBytes_storesOk (l : List (BitVec 7 × Byte)) {s : State} (h : s.storesOk = true) :
    (l.foldl envByte s).storesOk = true := by
  induction l generalizing s with
  | nil => exact h
  | cons u l ih => exact ih (envByte_storesOk u h)

/-- The notification keeps every store in form. -/
theorem envNotify_storesOk {s : State} (h : s.storesOk = true) : (envNotify s).storesOk = true := by
  have hr : ∀ (b : Bool) (i : Nat) (s : State), (requestIf b i s).storesOk = s.storesOk := by
    intro b i s
    unfold requestIf; split <;> rfl
  unfold envNotify
  split
  · exact h
  · next e rest he =>
    simp only [applyAnswer, hr]
    exact envBytes_storesOk (s := { s with env := rest }) e.bytes h

/-- Everything the interrupt step can do. -/
theorem interruptStep_cases (s : State) :
    (pending s = 0#5 ∧ interruptStep s = (s, none)) ∨
    (pending s ≠ 0#5 ∧ s.ime = false ∧ interruptStep s = ({ s with halted := false }, none)) ∨
    (pending s ≠ 0#5 ∧ s.ime = true ∧
      interruptStep s = (dispatchInterrupt (lowestSource (pending s)) { s with halted := false }, some 20)) := by
  unfold interruptStep
  by_cases hp : pending s = 0#5
  · exact .inl ⟨hp, if_pos hp⟩
  · cases hi : s.ime with
    | false => exact .inr (.inl ⟨hp, rfl, by simp [hp]⟩)
    | true => exact .inr (.inr ⟨hp, rfl, by simp [hp]⟩)

end Sys2Proof.Machine
end

