-- ==== Sys2Proof/Laws/PerInstr.lean ====
section
/-! SUPPORT. A fact about every instruction as syntax, one lemma a constructor: its encoding begins with a byte that gives its
length (30_encoding.md R142, R154). -/

namespace Sys2Proof.Laws

/-- The first byte of the encoding determines the encoding's length. -/
def EncodingLength.Statement (i : Instr) : Prop :=
  ∃ op rest, encode i = op :: rest ∧ lengthOf op = i.length

theorem EncodingLength.nop : Statement .nop :=
  ⟨_, _, rfl, rfl⟩

theorem EncodingLength.ldBcD16 (v : Word) : Statement (.ldBcD16 v) :=
  ⟨_, _, rfl, rfl⟩

theorem EncodingLength.ldIndBcA : Statement .ldIndBcA :=
  ⟨_, _, rfl, rfl⟩

theorem EncodingLength.incBc : Statement .incBc :=
  ⟨_, _, rfl, rfl⟩

theorem EncodingLength.incB : Statement .incB :=
  ⟨_, _, rfl, rfl⟩

theorem EncodingLength.decB : Statement .decB :=
  ⟨_, _, rfl, rfl⟩

theorem EncodingLength.ldBD8 (v : Byte) : Statement (.ldBD8 v) :=
  ⟨_, _, rfl, rfl⟩

theorem EncodingLength.rlca : Statement .rlca :=
  ⟨_, _, rfl, rfl⟩

theorem EncodingLength.ldIndA16Sp (a : Word) : Statement (.ldIndA16Sp a) :=
  ⟨_, _, rfl, rfl⟩

theorem EncodingLength.addHlBc : Statement .addHlBc :=
  ⟨_, _, rfl, rfl⟩

theorem EncodingLength.ldAIndBc : Statement .ldAIndBc :=
  ⟨_, _, rfl, rfl⟩

theorem EncodingLength.decBc : Statement .decBc :=
  ⟨_, _, rfl, rfl⟩

theorem EncodingLength.incC : Statement .incC :=
  ⟨_, _, rfl, rfl⟩

theorem EncodingLength.decC : Statement .decC :=
  ⟨_, _, rfl, rfl⟩

theorem EncodingLength.ldCD8 (v : Byte) : Statement (.ldCD8 v) :=
  ⟨_, _, rfl, rfl⟩

theorem EncodingLength.rrca : Statement .rrca :=
  ⟨_, _, rfl, rfl⟩

theorem EncodingLength.stop : Statement .stop :=
  ⟨_, _, rfl, rfl⟩

theorem EncodingLength.ldDeD16 (v : Word) : Statement (.ldDeD16 v) :=
  ⟨_, _, rfl, rfl⟩

theorem EncodingLength.ldIndDeA : Statement .ldIndDeA :=
  ⟨_, _, rfl, rfl⟩

theorem EncodingLength.incDe : Statement .incDe :=
  ⟨_, _, rfl, rfl⟩

theorem EncodingLength.incD : Statement .incD :=
  ⟨_, _, rfl, rfl⟩

theorem EncodingLength.decD : Statement .decD :=
  ⟨_, _, rfl, rfl⟩

theorem EncodingLength.ldDD8 (v : Byte) : Statement (.ldDD8 v) :=
  ⟨_, _, rfl, rfl⟩

theorem EncodingLength.rla : Statement .rla :=
  ⟨_, _, rfl, rfl⟩

theorem EncodingLength.jrE8 (e : Byte) : Statement (.jrE8 e) :=
  ⟨_, _, rfl, rfl⟩

theorem EncodingLength.addHlDe : Statement .addHlDe :=
  ⟨_, _, rfl, rfl⟩

theorem EncodingLength.ldAIndDe : Statement .ldAIndDe :=
  ⟨_, _, rfl, rfl⟩

theorem EncodingLength.decDe : Statement .decDe :=
  ⟨_, _, rfl, rfl⟩

theorem EncodingLength.incE : Statement .incE :=
  ⟨_, _, rfl, rfl⟩

theorem EncodingLength.decE : Statement .decE :=
  ⟨_, _, rfl, rfl⟩

theorem EncodingLength.ldED8 (v : Byte) : Statement (.ldED8 v) :=
  ⟨_, _, rfl, rfl⟩

theorem EncodingLength.rra : Statement .rra :=
  ⟨_, _, rfl, rfl⟩

theorem EncodingLength.jrNzE8 (e : Byte) : Statement (.jrNzE8 e) :=
  ⟨_, _, rfl, rfl⟩

theorem EncodingLength.ldHlD16 (v : Word) : Statement (.ldHlD16 v) :=
  ⟨_, _, rfl, rfl⟩

theorem EncodingLength.ldIndHlIncA : Statement .ldIndHlIncA :=
  ⟨_, _, rfl, rfl⟩

theorem EncodingLength.incHl : Statement .incHl :=
  ⟨_, _, rfl, rfl⟩

theorem EncodingLength.incH : Statement .incH :=
  ⟨_, _, rfl, rfl⟩

theorem EncodingLength.decH : Statement .decH :=
  ⟨_, _, rfl, rfl⟩

theorem EncodingLength.ldHD8 (v : Byte) : Statement (.ldHD8 v) :=
  ⟨_, _, rfl, rfl⟩

theorem EncodingLength.daa : Statement .daa :=
  ⟨_, _, rfl, rfl⟩

theorem EncodingLength.jrZE8 (e : Byte) : Statement (.jrZE8 e) :=
  ⟨_, _, rfl, rfl⟩

theorem EncodingLength.addHlHl : Statement .addHlHl :=
  ⟨_, _, rfl, rfl⟩

theorem EncodingLength.ldAIndHlInc : Statement .ldAIndHlInc :=
  ⟨_, _, rfl, rfl⟩

theorem EncodingLength.decHl : Statement .decHl :=
  ⟨_, _, rfl, rfl⟩

theorem EncodingLength.incL : Statement .incL :=
  ⟨_, _, rfl, rfl⟩

theorem EncodingLength.decL : Statement .decL :=
  ⟨_, _, rfl, rfl⟩

theorem EncodingLength.ldLD8 (v : Byte) : Statement (.ldLD8 v) :=
  ⟨_, _, rfl, rfl⟩

theorem EncodingLength.cpl : Statement .cpl :=
  ⟨_, _, rfl, rfl⟩

theorem EncodingLength.jrNcE8 (e : Byte) : Statement (.jrNcE8 e) :=
  ⟨_, _, rfl, rfl⟩

theorem EncodingLength.ldSpD16 (v : Word) : Statement (.ldSpD16 v) :=
  ⟨_, _, rfl, rfl⟩

theorem EncodingLength.ldIndHlDecA : Statement .ldIndHlDecA :=
  ⟨_, _, rfl, rfl⟩

theorem EncodingLength.incSp : Statement .incSp :=
  ⟨_, _, rfl, rfl⟩

theorem EncodingLength.incIndHl : Statement .incIndHl :=
  ⟨_, _, rfl, rfl⟩

theorem EncodingLength.decIndHl : Statement .decIndHl :=
  ⟨_, _, rfl, rfl⟩

theorem EncodingLength.ldIndHlD8 (v : Byte) : Statement (.ldIndHlD8 v) :=
  ⟨_, _, rfl, rfl⟩

theorem EncodingLength.scf : Statement .scf :=
  ⟨_, _, rfl, rfl⟩

theorem EncodingLength.jrCE8 (e : Byte) : Statement (.jrCE8 e) :=
  ⟨_, _, rfl, rfl⟩

theorem EncodingLength.addHlSp : Statement .addHlSp :=
  ⟨_, _, rfl, rfl⟩

theorem EncodingLength.ldAIndHlDec : Statement .ldAIndHlDec :=
  ⟨_, _, rfl, rfl⟩

theorem EncodingLength.decSp : Statement .decSp :=
  ⟨_, _, rfl, rfl⟩

theorem EncodingLength.incA : Statement .incA :=
  ⟨_, _, rfl, rfl⟩

theorem EncodingLength.decA : Statement .decA :=
  ⟨_, _, rfl, rfl⟩

theorem EncodingLength.ldAD8 (v : Byte) : Statement (.ldAD8 v) :=
  ⟨_, _, rfl, rfl⟩

theorem EncodingLength.ccf : Statement .ccf :=
  ⟨_, _, rfl, rfl⟩

theorem EncodingLength.ldBB : Statement .ldBB :=
  ⟨_, _, rfl, rfl⟩

theorem EncodingLength.ldBC : Statement .ldBC :=
  ⟨_, _, rfl, rfl⟩

theorem EncodingLength.ldBD : Statement .ldBD :=
  ⟨_, _, rfl, rfl⟩

theorem EncodingLength.ldBE : Statement .ldBE :=
  ⟨_, _, rfl, rfl⟩

theorem EncodingLength.ldBH : Statement .ldBH :=
  ⟨_, _, rfl, rfl⟩

theorem EncodingLength.ldBL : Statement .ldBL :=
  ⟨_, _, rfl, rfl⟩

theorem EncodingLength.ldBIndHl : Statement .ldBIndHl :=
  ⟨_, _, rfl, rfl⟩

theorem EncodingLength.ldBA : Statement .ldBA :=
  ⟨_, _, rfl, rfl⟩

theorem EncodingLength.ldCB : Statement .ldCB :=
  ⟨_, _, rfl, rfl⟩

theorem EncodingLength.ldCC : Statement .ldCC :=
  ⟨_, _, rfl, rfl⟩

theorem EncodingLength.ldCD : Statement .ldCD :=
  ⟨_, _, rfl, rfl⟩

theorem EncodingLength.ldCE : Statement .ldCE :=
  ⟨_, _, rfl, rfl⟩

theorem EncodingLength.ldCH : Statement .ldCH :=
  ⟨_, _, rfl, rfl⟩

theorem EncodingLength.ldCL : Statement .ldCL :=
  ⟨_, _, rfl, rfl⟩

theorem EncodingLength.ldCIndHl : Statement .ldCIndHl :=
  ⟨_, _, rfl, rfl⟩

theorem EncodingLength.ldCA : Statement .ldCA :=
  ⟨_, _, rfl, rfl⟩

theorem EncodingLength.ldDB : Statement .ldDB :=
  ⟨_, _, rfl, rfl⟩

theorem EncodingLength.ldDC : Statement .ldDC :=
  ⟨_, _, rfl, rfl⟩

theorem EncodingLength.ldDD : Statement .ldDD :=
  ⟨_, _, rfl, rfl⟩

theorem EncodingLength.ldDE : Statement .ldDE :=
  ⟨_, _, rfl, rfl⟩

theorem EncodingLength.ldDH : Statement .ldDH :=
  ⟨_, _, rfl, rfl⟩

theorem EncodingLength.ldDL : Statement .ldDL :=
  ⟨_, _, rfl, rfl⟩

theorem EncodingLength.ldDIndHl : Statement .ldDIndHl :=
  ⟨_, _, rfl, rfl⟩

theorem EncodingLength.ldDA : Statement .ldDA :=
  ⟨_, _, rfl, rfl⟩

theorem EncodingLength.ldEB : Statement .ldEB :=
  ⟨_, _, rfl, rfl⟩

theorem EncodingLength.ldEC : Statement .ldEC :=
  ⟨_, _, rfl, rfl⟩

theorem EncodingLength.ldED : Statement .ldED :=
  ⟨_, _, rfl, rfl⟩

theorem EncodingLength.ldEE : Statement .ldEE :=
  ⟨_, _, rfl, rfl⟩

theorem EncodingLength.ldEH : Statement .ldEH :=
  ⟨_, _, rfl, rfl⟩

theorem EncodingLength.ldEL : Statement .ldEL :=
  ⟨_, _, rfl, rfl⟩

theorem EncodingLength.ldEIndHl : Statement .ldEIndHl :=
  ⟨_, _, rfl, rfl⟩

theorem EncodingLength.ldEA : Statement .ldEA :=
  ⟨_, _, rfl, rfl⟩

theorem EncodingLength.ldHB : Statement .ldHB :=
  ⟨_, _, rfl, rfl⟩

theorem EncodingLength.ldHC : Statement .ldHC :=
  ⟨_, _, rfl, rfl⟩

theorem EncodingLength.ldHD : Statement .ldHD :=
  ⟨_, _, rfl, rfl⟩

theorem EncodingLength.ldHE : Statement .ldHE :=
  ⟨_, _, rfl, rfl⟩

theorem EncodingLength.ldHH : Statement .ldHH :=
  ⟨_, _, rfl, rfl⟩

theorem EncodingLength.ldHL : Statement .ldHL :=
  ⟨_, _, rfl, rfl⟩

theorem EncodingLength.ldHIndHl : Statement .ldHIndHl :=
  ⟨_, _, rfl, rfl⟩

theorem EncodingLength.ldHA : Statement .ldHA :=
  ⟨_, _, rfl, rfl⟩

theorem EncodingLength.ldLB : Statement .ldLB :=
  ⟨_, _, rfl, rfl⟩

theorem EncodingLength.ldLC : Statement .ldLC :=
  ⟨_, _, rfl, rfl⟩

theorem EncodingLength.ldLD : Statement .ldLD :=
  ⟨_, _, rfl, rfl⟩

theorem EncodingLength.ldLE : Statement .ldLE :=
  ⟨_, _, rfl, rfl⟩

theorem EncodingLength.ldLH : Statement .ldLH :=
  ⟨_, _, rfl, rfl⟩

theorem EncodingLength.ldLL : Statement .ldLL :=
  ⟨_, _, rfl, rfl⟩

theorem EncodingLength.ldLIndHl : Statement .ldLIndHl :=
  ⟨_, _, rfl, rfl⟩

theorem EncodingLength.ldLA : Statement .ldLA :=
  ⟨_, _, rfl, rfl⟩

theorem EncodingLength.ldIndHlB : Statement .ldIndHlB :=
  ⟨_, _, rfl, rfl⟩

theorem EncodingLength.ldIndHlC : Statement .ldIndHlC :=
  ⟨_, _, rfl, rfl⟩

theorem EncodingLength.ldIndHlD : Statement .ldIndHlD :=
  ⟨_, _, rfl, rfl⟩

theorem EncodingLength.ldIndHlE : Statement .ldIndHlE :=
  ⟨_, _, rfl, rfl⟩

theorem EncodingLength.ldIndHlH : Statement .ldIndHlH :=
  ⟨_, _, rfl, rfl⟩

theorem EncodingLength.ldIndHlL : Statement .ldIndHlL :=
  ⟨_, _, rfl, rfl⟩

theorem EncodingLength.halt : Statement .halt :=
  ⟨_, _, rfl, rfl⟩

theorem EncodingLength.ldIndHlA : Statement .ldIndHlA :=
  ⟨_, _, rfl, rfl⟩

theorem EncodingLength.ldAB : Statement .ldAB :=
  ⟨_, _, rfl, rfl⟩

theorem EncodingLength.ldAC : Statement .ldAC :=
  ⟨_, _, rfl, rfl⟩

theorem EncodingLength.ldAD : Statement .ldAD :=
  ⟨_, _, rfl, rfl⟩

theorem EncodingLength.ldAE : Statement .ldAE :=
  ⟨_, _, rfl, rfl⟩

theorem EncodingLength.ldAH : Statement .ldAH :=
  ⟨_, _, rfl, rfl⟩

theorem EncodingLength.ldAL : Statement .ldAL :=
  ⟨_, _, rfl, rfl⟩

theorem EncodingLength.ldAIndHl : Statement .ldAIndHl :=
  ⟨_, _, rfl, rfl⟩

theorem EncodingLength.ldAA : Statement .ldAA :=
  ⟨_, _, rfl, rfl⟩

theorem EncodingLength.addAB : Statement .addAB :=
  ⟨_, _, rfl, rfl⟩

theorem EncodingLength.addAC : Statement .addAC :=
  ⟨_, _, rfl, rfl⟩

theorem EncodingLength.addAD : Statement .addAD :=
  ⟨_, _, rfl, rfl⟩

theorem EncodingLength.addAE : Statement .addAE :=
  ⟨_, _, rfl, rfl⟩

theorem EncodingLength.addAH : Statement .addAH :=
  ⟨_, _, rfl, rfl⟩

theorem EncodingLength.addAL : Statement .addAL :=
  ⟨_, _, rfl, rfl⟩

theorem EncodingLength.addAIndHl : Statement .addAIndHl :=
  ⟨_, _, rfl, rfl⟩

theorem EncodingLength.addAA : Statement .addAA :=
  ⟨_, _, rfl, rfl⟩

theorem EncodingLength.adcAB : Statement .adcAB :=
  ⟨_, _, rfl, rfl⟩

theorem EncodingLength.adcAC : Statement .adcAC :=
  ⟨_, _, rfl, rfl⟩

theorem EncodingLength.adcAD : Statement .adcAD :=
  ⟨_, _, rfl, rfl⟩

theorem EncodingLength.adcAE : Statement .adcAE :=
  ⟨_, _, rfl, rfl⟩

theorem EncodingLength.adcAH : Statement .adcAH :=
  ⟨_, _, rfl, rfl⟩

theorem EncodingLength.adcAL : Statement .adcAL :=
  ⟨_, _, rfl, rfl⟩

theorem EncodingLength.adcAIndHl : Statement .adcAIndHl :=
  ⟨_, _, rfl, rfl⟩

theorem EncodingLength.adcAA : Statement .adcAA :=
  ⟨_, _, rfl, rfl⟩

theorem EncodingLength.subAB : Statement .subAB :=
  ⟨_, _, rfl, rfl⟩

theorem EncodingLength.subAC : Statement .subAC :=
  ⟨_, _, rfl, rfl⟩

theorem EncodingLength.subAD : Statement .subAD :=
  ⟨_, _, rfl, rfl⟩

theorem EncodingLength.subAE : Statement .subAE :=
  ⟨_, _, rfl, rfl⟩

theorem EncodingLength.subAH : Statement .subAH :=
  ⟨_, _, rfl, rfl⟩

theorem EncodingLength.subAL : Statement .subAL :=
  ⟨_, _, rfl, rfl⟩

theorem EncodingLength.subAIndHl : Statement .subAIndHl :=
  ⟨_, _, rfl, rfl⟩

theorem EncodingLength.subAA : Statement .subAA :=
  ⟨_, _, rfl, rfl⟩

theorem EncodingLength.sbcAB : Statement .sbcAB :=
  ⟨_, _, rfl, rfl⟩

theorem EncodingLength.sbcAC : Statement .sbcAC :=
  ⟨_, _, rfl, rfl⟩

theorem EncodingLength.sbcAD : Statement .sbcAD :=
  ⟨_, _, rfl, rfl⟩

theorem EncodingLength.sbcAE : Statement .sbcAE :=
  ⟨_, _, rfl, rfl⟩

theorem EncodingLength.sbcAH : Statement .sbcAH :=
  ⟨_, _, rfl, rfl⟩

theorem EncodingLength.sbcAL : Statement .sbcAL :=
  ⟨_, _, rfl, rfl⟩

theorem EncodingLength.sbcAIndHl : Statement .sbcAIndHl :=
  ⟨_, _, rfl, rfl⟩

theorem EncodingLength.sbcAA : Statement .sbcAA :=
  ⟨_, _, rfl, rfl⟩

theorem EncodingLength.andAB : Statement .andAB :=
  ⟨_, _, rfl, rfl⟩

theorem EncodingLength.andAC : Statement .andAC :=
  ⟨_, _, rfl, rfl⟩

theorem EncodingLength.andAD : Statement .andAD :=
  ⟨_, _, rfl, rfl⟩

theorem EncodingLength.andAE : Statement .andAE :=
  ⟨_, _, rfl, rfl⟩

theorem EncodingLength.andAH : Statement .andAH :=
  ⟨_, _, rfl, rfl⟩

theorem EncodingLength.andAL : Statement .andAL :=
  ⟨_, _, rfl, rfl⟩

theorem EncodingLength.andAIndHl : Statement .andAIndHl :=
  ⟨_, _, rfl, rfl⟩

theorem EncodingLength.andAA : Statement .andAA :=
  ⟨_, _, rfl, rfl⟩

theorem EncodingLength.xorAB : Statement .xorAB :=
  ⟨_, _, rfl, rfl⟩

theorem EncodingLength.xorAC : Statement .xorAC :=
  ⟨_, _, rfl, rfl⟩

theorem EncodingLength.xorAD : Statement .xorAD :=
  ⟨_, _, rfl, rfl⟩

theorem EncodingLength.xorAE : Statement .xorAE :=
  ⟨_, _, rfl, rfl⟩

theorem EncodingLength.xorAH : Statement .xorAH :=
  ⟨_, _, rfl, rfl⟩

theorem EncodingLength.xorAL : Statement .xorAL :=
  ⟨_, _, rfl, rfl⟩

theorem EncodingLength.xorAIndHl : Statement .xorAIndHl :=
  ⟨_, _, rfl, rfl⟩

theorem EncodingLength.xorAA : Statement .xorAA :=
  ⟨_, _, rfl, rfl⟩

theorem EncodingLength.orAB : Statement .orAB :=
  ⟨_, _, rfl, rfl⟩

theorem EncodingLength.orAC : Statement .orAC :=
  ⟨_, _, rfl, rfl⟩

theorem EncodingLength.orAD : Statement .orAD :=
  ⟨_, _, rfl, rfl⟩

theorem EncodingLength.orAE : Statement .orAE :=
  ⟨_, _, rfl, rfl⟩

theorem EncodingLength.orAH : Statement .orAH :=
  ⟨_, _, rfl, rfl⟩

theorem EncodingLength.orAL : Statement .orAL :=
  ⟨_, _, rfl, rfl⟩

theorem EncodingLength.orAIndHl : Statement .orAIndHl :=
  ⟨_, _, rfl, rfl⟩

theorem EncodingLength.orAA : Statement .orAA :=
  ⟨_, _, rfl, rfl⟩

theorem EncodingLength.cpAB : Statement .cpAB :=
  ⟨_, _, rfl, rfl⟩

theorem EncodingLength.cpAC : Statement .cpAC :=
  ⟨_, _, rfl, rfl⟩

theorem EncodingLength.cpAD : Statement .cpAD :=
  ⟨_, _, rfl, rfl⟩

theorem EncodingLength.cpAE : Statement .cpAE :=
  ⟨_, _, rfl, rfl⟩

theorem EncodingLength.cpAH : Statement .cpAH :=
  ⟨_, _, rfl, rfl⟩

theorem EncodingLength.cpAL : Statement .cpAL :=
  ⟨_, _, rfl, rfl⟩

theorem EncodingLength.cpAIndHl : Statement .cpAIndHl :=
  ⟨_, _, rfl, rfl⟩

theorem EncodingLength.cpAA : Statement .cpAA :=
  ⟨_, _, rfl, rfl⟩

theorem EncodingLength.retNz : Statement .retNz :=
  ⟨_, _, rfl, rfl⟩

theorem EncodingLength.popBc : Statement .popBc :=
  ⟨_, _, rfl, rfl⟩

theorem EncodingLength.jpNzA16 (a : Word) : Statement (.jpNzA16 a) :=
  ⟨_, _, rfl, rfl⟩

theorem EncodingLength.jpA16 (a : Word) : Statement (.jpA16 a) :=
  ⟨_, _, rfl, rfl⟩

theorem EncodingLength.callNzA16 (a : Word) : Statement (.callNzA16 a) :=
  ⟨_, _, rfl, rfl⟩

theorem EncodingLength.pushBc : Statement .pushBc :=
  ⟨_, _, rfl, rfl⟩

theorem EncodingLength.addAD8 (v : Byte) : Statement (.addAD8 v) :=
  ⟨_, _, rfl, rfl⟩

theorem EncodingLength.rst00 : Statement .rst00 :=
  ⟨_, _, rfl, rfl⟩

theorem EncodingLength.retZ : Statement .retZ :=
  ⟨_, _, rfl, rfl⟩

theorem EncodingLength.ret : Statement .ret :=
  ⟨_, _, rfl, rfl⟩

theorem EncodingLength.jpZA16 (a : Word) : Statement (.jpZA16 a) :=
  ⟨_, _, rfl, rfl⟩

theorem EncodingLength.prefixCb (op2 : Byte) : Statement (.prefixCb op2) :=
  ⟨_, _, rfl, rfl⟩

theorem EncodingLength.callZA16 (a : Word) : Statement (.callZA16 a) :=
  ⟨_, _, rfl, rfl⟩

theorem EncodingLength.callA16 (a : Word) : Statement (.callA16 a) :=
  ⟨_, _, rfl, rfl⟩

theorem EncodingLength.adcAD8 (v : Byte) : Statement (.adcAD8 v) :=
  ⟨_, _, rfl, rfl⟩

theorem EncodingLength.rst08 : Statement .rst08 :=
  ⟨_, _, rfl, rfl⟩

theorem EncodingLength.retNc : Statement .retNc :=
  ⟨_, _, rfl, rfl⟩

theorem EncodingLength.popDe : Statement .popDe :=
  ⟨_, _, rfl, rfl⟩

theorem EncodingLength.jpNcA16 (a : Word) : Statement (.jpNcA16 a) :=
  ⟨_, _, rfl, rfl⟩

theorem EncodingLength.illegalD3 : Statement .illegalD3 :=
  ⟨_, _, rfl, rfl⟩

theorem EncodingLength.callNcA16 (a : Word) : Statement (.callNcA16 a) :=
  ⟨_, _, rfl, rfl⟩

theorem EncodingLength.pushDe : Statement .pushDe :=
  ⟨_, _, rfl, rfl⟩

theorem EncodingLength.subAD8 (v : Byte) : Statement (.subAD8 v) :=
  ⟨_, _, rfl, rfl⟩

theorem EncodingLength.rst10 : Statement .rst10 :=
  ⟨_, _, rfl, rfl⟩

theorem EncodingLength.retC : Statement .retC :=
  ⟨_, _, rfl, rfl⟩

theorem EncodingLength.reti : Statement .reti :=
  ⟨_, _, rfl, rfl⟩

theorem EncodingLength.jpCA16 (a : Word) : Statement (.jpCA16 a) :=
  ⟨_, _, rfl, rfl⟩

theorem EncodingLength.illegalDB : Statement .illegalDB :=
  ⟨_, _, rfl, rfl⟩

theorem EncodingLength.callCA16 (a : Word) : Statement (.callCA16 a) :=
  ⟨_, _, rfl, rfl⟩

theorem EncodingLength.illegalDD : Statement .illegalDD :=
  ⟨_, _, rfl, rfl⟩

theorem EncodingLength.sbcAD8 (v : Byte) : Statement (.sbcAD8 v) :=
  ⟨_, _, rfl, rfl⟩

theorem EncodingLength.rst18 : Statement .rst18 :=
  ⟨_, _, rfl, rfl⟩

theorem EncodingLength.ldhIndA8A (n : Byte) : Statement (.ldhIndA8A n) :=
  ⟨_, _, rfl, rfl⟩

theorem EncodingLength.popHl : Statement .popHl :=
  ⟨_, _, rfl, rfl⟩

theorem EncodingLength.ldhIndCA : Statement .ldhIndCA :=
  ⟨_, _, rfl, rfl⟩

theorem EncodingLength.illegalE3 : Statement .illegalE3 :=
  ⟨_, _, rfl, rfl⟩

theorem EncodingLength.illegalE4 : Statement .illegalE4 :=
  ⟨_, _, rfl, rfl⟩

theorem EncodingLength.pushHl : Statement .pushHl :=
  ⟨_, _, rfl, rfl⟩

theorem EncodingLength.andAD8 (v : Byte) : Statement (.andAD8 v) :=
  ⟨_, _, rfl, rfl⟩

theorem EncodingLength.rst20 : Statement .rst20 :=
  ⟨_, _, rfl, rfl⟩

theorem EncodingLength.addSpE8 (e : Byte) : Statement (.addSpE8 e) :=
  ⟨_, _, rfl, rfl⟩

theorem EncodingLength.jpHl : Statement .jpHl :=
  ⟨_, _, rfl, rfl⟩

theorem EncodingLength.ldIndA16A (a : Word) : Statement (.ldIndA16A a) :=
  ⟨_, _, rfl, rfl⟩

theorem EncodingLength.illegalEB : Statement .illegalEB :=
  ⟨_, _, rfl, rfl⟩

theorem EncodingLength.illegalEC : Statement .illegalEC :=
  ⟨_, _, rfl, rfl⟩

theorem EncodingLength.illegalED : Statement .illegalED :=
  ⟨_, _, rfl, rfl⟩

theorem EncodingLength.xorAD8 (v : Byte) : Statement (.xorAD8 v) :=
  ⟨_, _, rfl, rfl⟩

theorem EncodingLength.rst28 : Statement .rst28 :=
  ⟨_, _, rfl, rfl⟩

theorem EncodingLength.ldhAIndA8 (n : Byte) : Statement (.ldhAIndA8 n) :=
  ⟨_, _, rfl, rfl⟩

theorem EncodingLength.popAf : Statement .popAf :=
  ⟨_, _, rfl, rfl⟩

theorem EncodingLength.ldhAIndC : Statement .ldhAIndC :=
  ⟨_, _, rfl, rfl⟩

theorem EncodingLength.di : Statement .di :=
  ⟨_, _, rfl, rfl⟩

theorem EncodingLength.illegalF4 : Statement .illegalF4 :=
  ⟨_, _, rfl, rfl⟩

theorem EncodingLength.pushAf : Statement .pushAf :=
  ⟨_, _, rfl, rfl⟩

theorem EncodingLength.orAD8 (v : Byte) : Statement (.orAD8 v) :=
  ⟨_, _, rfl, rfl⟩

theorem EncodingLength.rst30 : Statement .rst30 :=
  ⟨_, _, rfl, rfl⟩

theorem EncodingLength.ldHlSpE8 (e : Byte) : Statement (.ldHlSpE8 e) :=
  ⟨_, _, rfl, rfl⟩

theorem EncodingLength.ldSpHl : Statement .ldSpHl :=
  ⟨_, _, rfl, rfl⟩

theorem EncodingLength.ldAIndA16 (a : Word) : Statement (.ldAIndA16 a) :=
  ⟨_, _, rfl, rfl⟩

theorem EncodingLength.ei : Statement .ei :=
  ⟨_, _, rfl, rfl⟩

theorem EncodingLength.illegalFC : Statement .illegalFC :=
  ⟨_, _, rfl, rfl⟩

theorem EncodingLength.illegalFD : Statement .illegalFD :=
  ⟨_, _, rfl, rfl⟩

theorem EncodingLength.cpAD8 (v : Byte) : Statement (.cpAD8 v) :=
  ⟨_, _, rfl, rfl⟩

theorem EncodingLength.rst38 : Statement .rst38 :=
  ⟨_, _, rfl, rfl⟩

theorem EncodingLength.rlcB : Statement .rlcB :=
  ⟨_, _, rfl, rfl⟩

theorem EncodingLength.rlcC : Statement .rlcC :=
  ⟨_, _, rfl, rfl⟩

theorem EncodingLength.rlcD : Statement .rlcD :=
  ⟨_, _, rfl, rfl⟩

theorem EncodingLength.rlcE : Statement .rlcE :=
  ⟨_, _, rfl, rfl⟩

theorem EncodingLength.rlcH : Statement .rlcH :=
  ⟨_, _, rfl, rfl⟩

theorem EncodingLength.rlcL : Statement .rlcL :=
  ⟨_, _, rfl, rfl⟩

theorem EncodingLength.rlcIndHl : Statement .rlcIndHl :=
  ⟨_, _, rfl, rfl⟩

theorem EncodingLength.rlcA : Statement .rlcA :=
  ⟨_, _, rfl, rfl⟩

theorem EncodingLength.rrcB : Statement .rrcB :=
  ⟨_, _, rfl, rfl⟩

theorem EncodingLength.rrcC : Statement .rrcC :=
  ⟨_, _, rfl, rfl⟩

theorem EncodingLength.rrcD : Statement .rrcD :=
  ⟨_, _, rfl, rfl⟩

theorem EncodingLength.rrcE : Statement .rrcE :=
  ⟨_, _, rfl, rfl⟩

theorem EncodingLength.rrcH : Statement .rrcH :=
  ⟨_, _, rfl, rfl⟩

theorem EncodingLength.rrcL : Statement .rrcL :=
  ⟨_, _, rfl, rfl⟩

theorem EncodingLength.rrcIndHl : Statement .rrcIndHl :=
  ⟨_, _, rfl, rfl⟩

theorem EncodingLength.rrcA : Statement .rrcA :=
  ⟨_, _, rfl, rfl⟩

theorem EncodingLength.rlB : Statement .rlB :=
  ⟨_, _, rfl, rfl⟩

theorem EncodingLength.rlC : Statement .rlC :=
  ⟨_, _, rfl, rfl⟩

theorem EncodingLength.rlD : Statement .rlD :=
  ⟨_, _, rfl, rfl⟩

theorem EncodingLength.rlE : Statement .rlE :=
  ⟨_, _, rfl, rfl⟩

theorem EncodingLength.rlH : Statement .rlH :=
  ⟨_, _, rfl, rfl⟩

theorem EncodingLength.rlL : Statement .rlL :=
  ⟨_, _, rfl, rfl⟩

theorem EncodingLength.rlIndHl : Statement .rlIndHl :=
  ⟨_, _, rfl, rfl⟩

theorem EncodingLength.rlA : Statement .rlA :=
  ⟨_, _, rfl, rfl⟩

theorem EncodingLength.rrB : Statement .rrB :=
  ⟨_, _, rfl, rfl⟩

theorem EncodingLength.rrC : Statement .rrC :=
  ⟨_, _, rfl, rfl⟩

theorem EncodingLength.rrD : Statement .rrD :=
  ⟨_, _, rfl, rfl⟩

theorem EncodingLength.rrE : Statement .rrE :=
  ⟨_, _, rfl, rfl⟩

theorem EncodingLength.rrH : Statement .rrH :=
  ⟨_, _, rfl, rfl⟩

theorem EncodingLength.rrL : Statement .rrL :=
  ⟨_, _, rfl, rfl⟩

theorem EncodingLength.rrIndHl : Statement .rrIndHl :=
  ⟨_, _, rfl, rfl⟩

theorem EncodingLength.rrA : Statement .rrA :=
  ⟨_, _, rfl, rfl⟩

theorem EncodingLength.slaB : Statement .slaB :=
  ⟨_, _, rfl, rfl⟩

theorem EncodingLength.slaC : Statement .slaC :=
  ⟨_, _, rfl, rfl⟩

theorem EncodingLength.slaD : Statement .slaD :=
  ⟨_, _, rfl, rfl⟩

theorem EncodingLength.slaE : Statement .slaE :=
  ⟨_, _, rfl, rfl⟩

theorem EncodingLength.slaH : Statement .slaH :=
  ⟨_, _, rfl, rfl⟩

theorem EncodingLength.slaL : Statement .slaL :=
  ⟨_, _, rfl, rfl⟩

theorem EncodingLength.slaIndHl : Statement .slaIndHl :=
  ⟨_, _, rfl, rfl⟩

theorem EncodingLength.slaA : Statement .slaA :=
  ⟨_, _, rfl, rfl⟩

theorem EncodingLength.sraB : Statement .sraB :=
  ⟨_, _, rfl, rfl⟩

theorem EncodingLength.sraC : Statement .sraC :=
  ⟨_, _, rfl, rfl⟩

theorem EncodingLength.sraD : Statement .sraD :=
  ⟨_, _, rfl, rfl⟩

theorem EncodingLength.sraE : Statement .sraE :=
  ⟨_, _, rfl, rfl⟩

theorem EncodingLength.sraH : Statement .sraH :=
  ⟨_, _, rfl, rfl⟩

theorem EncodingLength.sraL : Statement .sraL :=
  ⟨_, _, rfl, rfl⟩

theorem EncodingLength.sraIndHl : Statement .sraIndHl :=
  ⟨_, _, rfl, rfl⟩

theorem EncodingLength.sraA : Statement .sraA :=
  ⟨_, _, rfl, rfl⟩

theorem EncodingLength.swapB : Statement .swapB :=
  ⟨_, _, rfl, rfl⟩

theorem EncodingLength.swapC : Statement .swapC :=
  ⟨_, _, rfl, rfl⟩

theorem EncodingLength.swapD : Statement .swapD :=
  ⟨_, _, rfl, rfl⟩

theorem EncodingLength.swapE : Statement .swapE :=
  ⟨_, _, rfl, rfl⟩

theorem EncodingLength.swapH : Statement .swapH :=
  ⟨_, _, rfl, rfl⟩

theorem EncodingLength.swapL : Statement .swapL :=
  ⟨_, _, rfl, rfl⟩

theorem EncodingLength.swapIndHl : Statement .swapIndHl :=
  ⟨_, _, rfl, rfl⟩

theorem EncodingLength.swapA : Statement .swapA :=
  ⟨_, _, rfl, rfl⟩

theorem EncodingLength.srlB : Statement .srlB :=
  ⟨_, _, rfl, rfl⟩

theorem EncodingLength.srlC : Statement .srlC :=
  ⟨_, _, rfl, rfl⟩

theorem EncodingLength.srlD : Statement .srlD :=
  ⟨_, _, rfl, rfl⟩

theorem EncodingLength.srlE : Statement .srlE :=
  ⟨_, _, rfl, rfl⟩

theorem EncodingLength.srlH : Statement .srlH :=
  ⟨_, _, rfl, rfl⟩

theorem EncodingLength.srlL : Statement .srlL :=
  ⟨_, _, rfl, rfl⟩

theorem EncodingLength.srlIndHl : Statement .srlIndHl :=
  ⟨_, _, rfl, rfl⟩

theorem EncodingLength.srlA : Statement .srlA :=
  ⟨_, _, rfl, rfl⟩

theorem EncodingLength.bit0B : Statement .bit0B :=
  ⟨_, _, rfl, rfl⟩

theorem EncodingLength.bit0C : Statement .bit0C :=
  ⟨_, _, rfl, rfl⟩

theorem EncodingLength.bit0D : Statement .bit0D :=
  ⟨_, _, rfl, rfl⟩

theorem EncodingLength.bit0E : Statement .bit0E :=
  ⟨_, _, rfl, rfl⟩

theorem EncodingLength.bit0H : Statement .bit0H :=
  ⟨_, _, rfl, rfl⟩

theorem EncodingLength.bit0L : Statement .bit0L :=
  ⟨_, _, rfl, rfl⟩

theorem EncodingLength.bit0IndHl : Statement .bit0IndHl :=
  ⟨_, _, rfl, rfl⟩

theorem EncodingLength.bit0A : Statement .bit0A :=
  ⟨_, _, rfl, rfl⟩

theorem EncodingLength.bit1B : Statement .bit1B :=
  ⟨_, _, rfl, rfl⟩

theorem EncodingLength.bit1C : Statement .bit1C :=
  ⟨_, _, rfl, rfl⟩

theorem EncodingLength.bit1D : Statement .bit1D :=
  ⟨_, _, rfl, rfl⟩

theorem EncodingLength.bit1E : Statement .bit1E :=
  ⟨_, _, rfl, rfl⟩

theorem EncodingLength.bit1H : Statement .bit1H :=
  ⟨_, _, rfl, rfl⟩

theorem EncodingLength.bit1L : Statement .bit1L :=
  ⟨_, _, rfl, rfl⟩

theorem EncodingLength.bit1IndHl : Statement .bit1IndHl :=
  ⟨_, _, rfl, rfl⟩

theorem EncodingLength.bit1A : Statement .bit1A :=
  ⟨_, _, rfl, rfl⟩

theorem EncodingLength.bit2B : Statement .bit2B :=
  ⟨_, _, rfl, rfl⟩

theorem EncodingLength.bit2C : Statement .bit2C :=
  ⟨_, _, rfl, rfl⟩

theorem EncodingLength.bit2D : Statement .bit2D :=
  ⟨_, _, rfl, rfl⟩

theorem EncodingLength.bit2E : Statement .bit2E :=
  ⟨_, _, rfl, rfl⟩

theorem EncodingLength.bit2H : Statement .bit2H :=
  ⟨_, _, rfl, rfl⟩

theorem EncodingLength.bit2L : Statement .bit2L :=
  ⟨_, _, rfl, rfl⟩

theorem EncodingLength.bit2IndHl : Statement .bit2IndHl :=
  ⟨_, _, rfl, rfl⟩

theorem EncodingLength.bit2A : Statement .bit2A :=
  ⟨_, _, rfl, rfl⟩

theorem EncodingLength.bit3B : Statement .bit3B :=
  ⟨_, _, rfl, rfl⟩

theorem EncodingLength.bit3C : Statement .bit3C :=
  ⟨_, _, rfl, rfl⟩

theorem EncodingLength.bit3D : Statement .bit3D :=
  ⟨_, _, rfl, rfl⟩

theorem EncodingLength.bit3E : Statement .bit3E :=
  ⟨_, _, rfl, rfl⟩

theorem EncodingLength.bit3H : Statement .bit3H :=
  ⟨_, _, rfl, rfl⟩

theorem EncodingLength.bit3L : Statement .bit3L :=
  ⟨_, _, rfl, rfl⟩

theorem EncodingLength.bit3IndHl : Statement .bit3IndHl :=
  ⟨_, _, rfl, rfl⟩

theorem EncodingLength.bit3A : Statement .bit3A :=
  ⟨_, _, rfl, rfl⟩

theorem EncodingLength.bit4B : Statement .bit4B :=
  ⟨_, _, rfl, rfl⟩

theorem EncodingLength.bit4C : Statement .bit4C :=
  ⟨_, _, rfl, rfl⟩

theorem EncodingLength.bit4D : Statement .bit4D :=
  ⟨_, _, rfl, rfl⟩

theorem EncodingLength.bit4E : Statement .bit4E :=
  ⟨_, _, rfl, rfl⟩

theorem EncodingLength.bit4H : Statement .bit4H :=
  ⟨_, _, rfl, rfl⟩

theorem EncodingLength.bit4L : Statement .bit4L :=
  ⟨_, _, rfl, rfl⟩

theorem EncodingLength.bit4IndHl : Statement .bit4IndHl :=
  ⟨_, _, rfl, rfl⟩

theorem EncodingLength.bit4A : Statement .bit4A :=
  ⟨_, _, rfl, rfl⟩

theorem EncodingLength.bit5B : Statement .bit5B :=
  ⟨_, _, rfl, rfl⟩

theorem EncodingLength.bit5C : Statement .bit5C :=
  ⟨_, _, rfl, rfl⟩

theorem EncodingLength.bit5D : Statement .bit5D :=
  ⟨_, _, rfl, rfl⟩

theorem EncodingLength.bit5E : Statement .bit5E :=
  ⟨_, _, rfl, rfl⟩

theorem EncodingLength.bit5H : Statement .bit5H :=
  ⟨_, _, rfl, rfl⟩

theorem EncodingLength.bit5L : Statement .bit5L :=
  ⟨_, _, rfl, rfl⟩

theorem EncodingLength.bit5IndHl : Statement .bit5IndHl :=
  ⟨_, _, rfl, rfl⟩

theorem EncodingLength.bit5A : Statement .bit5A :=
  ⟨_, _, rfl, rfl⟩

theorem EncodingLength.bit6B : Statement .bit6B :=
  ⟨_, _, rfl, rfl⟩

theorem EncodingLength.bit6C : Statement .bit6C :=
  ⟨_, _, rfl, rfl⟩

theorem EncodingLength.bit6D : Statement .bit6D :=
  ⟨_, _, rfl, rfl⟩

theorem EncodingLength.bit6E : Statement .bit6E :=
  ⟨_, _, rfl, rfl⟩

theorem EncodingLength.bit6H : Statement .bit6H :=
  ⟨_, _, rfl, rfl⟩

theorem EncodingLength.bit6L : Statement .bit6L :=
  ⟨_, _, rfl, rfl⟩

theorem EncodingLength.bit6IndHl : Statement .bit6IndHl :=
  ⟨_, _, rfl, rfl⟩

theorem EncodingLength.bit6A : Statement .bit6A :=
  ⟨_, _, rfl, rfl⟩

theorem EncodingLength.bit7B : Statement .bit7B :=
  ⟨_, _, rfl, rfl⟩

theorem EncodingLength.bit7C : Statement .bit7C :=
  ⟨_, _, rfl, rfl⟩

theorem EncodingLength.bit7D : Statement .bit7D :=
  ⟨_, _, rfl, rfl⟩

theorem EncodingLength.bit7E : Statement .bit7E :=
  ⟨_, _, rfl, rfl⟩

theorem EncodingLength.bit7H : Statement .bit7H :=
  ⟨_, _, rfl, rfl⟩

theorem EncodingLength.bit7L : Statement .bit7L :=
  ⟨_, _, rfl, rfl⟩

theorem EncodingLength.bit7IndHl : Statement .bit7IndHl :=
  ⟨_, _, rfl, rfl⟩

theorem EncodingLength.bit7A : Statement .bit7A :=
  ⟨_, _, rfl, rfl⟩

theorem EncodingLength.res0B : Statement .res0B :=
  ⟨_, _, rfl, rfl⟩

theorem EncodingLength.res0C : Statement .res0C :=
  ⟨_, _, rfl, rfl⟩

theorem EncodingLength.res0D : Statement .res0D :=
  ⟨_, _, rfl, rfl⟩

theorem EncodingLength.res0E : Statement .res0E :=
  ⟨_, _, rfl, rfl⟩

theorem EncodingLength.res0H : Statement .res0H :=
  ⟨_, _, rfl, rfl⟩

theorem EncodingLength.res0L : Statement .res0L :=
  ⟨_, _, rfl, rfl⟩

theorem EncodingLength.res0IndHl : Statement .res0IndHl :=
  ⟨_, _, rfl, rfl⟩

theorem EncodingLength.res0A : Statement .res0A :=
  ⟨_, _, rfl, rfl⟩

theorem EncodingLength.res1B : Statement .res1B :=
  ⟨_, _, rfl, rfl⟩

theorem EncodingLength.res1C : Statement .res1C :=
  ⟨_, _, rfl, rfl⟩

theorem EncodingLength.res1D : Statement .res1D :=
  ⟨_, _, rfl, rfl⟩

theorem EncodingLength.res1E : Statement .res1E :=
  ⟨_, _, rfl, rfl⟩

theorem EncodingLength.res1H : Statement .res1H :=
  ⟨_, _, rfl, rfl⟩

theorem EncodingLength.res1L : Statement .res1L :=
  ⟨_, _, rfl, rfl⟩

theorem EncodingLength.res1IndHl : Statement .res1IndHl :=
  ⟨_, _, rfl, rfl⟩

theorem EncodingLength.res1A : Statement .res1A :=
  ⟨_, _, rfl, rfl⟩

theorem EncodingLength.res2B : Statement .res2B :=
  ⟨_, _, rfl, rfl⟩

theorem EncodingLength.res2C : Statement .res2C :=
  ⟨_, _, rfl, rfl⟩

theorem EncodingLength.res2D : Statement .res2D :=
  ⟨_, _, rfl, rfl⟩

theorem EncodingLength.res2E : Statement .res2E :=
  ⟨_, _, rfl, rfl⟩

theorem EncodingLength.res2H : Statement .res2H :=
  ⟨_, _, rfl, rfl⟩

theorem EncodingLength.res2L : Statement .res2L :=
  ⟨_, _, rfl, rfl⟩

theorem EncodingLength.res2IndHl : Statement .res2IndHl :=
  ⟨_, _, rfl, rfl⟩

theorem EncodingLength.res2A : Statement .res2A :=
  ⟨_, _, rfl, rfl⟩

theorem EncodingLength.res3B : Statement .res3B :=
  ⟨_, _, rfl, rfl⟩

theorem EncodingLength.res3C : Statement .res3C :=
  ⟨_, _, rfl, rfl⟩

theorem EncodingLength.res3D : Statement .res3D :=
  ⟨_, _, rfl, rfl⟩

theorem EncodingLength.res3E : Statement .res3E :=
  ⟨_, _, rfl, rfl⟩

theorem EncodingLength.res3H : Statement .res3H :=
  ⟨_, _, rfl, rfl⟩

theorem EncodingLength.res3L : Statement .res3L :=
  ⟨_, _, rfl, rfl⟩

theorem EncodingLength.res3IndHl : Statement .res3IndHl :=
  ⟨_, _, rfl, rfl⟩

theorem EncodingLength.res3A : Statement .res3A :=
  ⟨_, _, rfl, rfl⟩

theorem EncodingLength.res4B : Statement .res4B :=
  ⟨_, _, rfl, rfl⟩

theorem EncodingLength.res4C : Statement .res4C :=
  ⟨_, _, rfl, rfl⟩

theorem EncodingLength.res4D : Statement .res4D :=
  ⟨_, _, rfl, rfl⟩

theorem EncodingLength.res4E : Statement .res4E :=
  ⟨_, _, rfl, rfl⟩

theorem EncodingLength.res4H : Statement .res4H :=
  ⟨_, _, rfl, rfl⟩

theorem EncodingLength.res4L : Statement .res4L :=
  ⟨_, _, rfl, rfl⟩

theorem EncodingLength.res4IndHl : Statement .res4IndHl :=
  ⟨_, _, rfl, rfl⟩

theorem EncodingLength.res4A : Statement .res4A :=
  ⟨_, _, rfl, rfl⟩

theorem EncodingLength.res5B : Statement .res5B :=
  ⟨_, _, rfl, rfl⟩

theorem EncodingLength.res5C : Statement .res5C :=
  ⟨_, _, rfl, rfl⟩

theorem EncodingLength.res5D : Statement .res5D :=
  ⟨_, _, rfl, rfl⟩

theorem EncodingLength.res5E : Statement .res5E :=
  ⟨_, _, rfl, rfl⟩

theorem EncodingLength.res5H : Statement .res5H :=
  ⟨_, _, rfl, rfl⟩

theorem EncodingLength.res5L : Statement .res5L :=
  ⟨_, _, rfl, rfl⟩

theorem EncodingLength.res5IndHl : Statement .res5IndHl :=
  ⟨_, _, rfl, rfl⟩

theorem EncodingLength.res5A : Statement .res5A :=
  ⟨_, _, rfl, rfl⟩

theorem EncodingLength.res6B : Statement .res6B :=
  ⟨_, _, rfl, rfl⟩

theorem EncodingLength.res6C : Statement .res6C :=
  ⟨_, _, rfl, rfl⟩

theorem EncodingLength.res6D : Statement .res6D :=
  ⟨_, _, rfl, rfl⟩

theorem EncodingLength.res6E : Statement .res6E :=
  ⟨_, _, rfl, rfl⟩

theorem EncodingLength.res6H : Statement .res6H :=
  ⟨_, _, rfl, rfl⟩

theorem EncodingLength.res6L : Statement .res6L :=
  ⟨_, _, rfl, rfl⟩

theorem EncodingLength.res6IndHl : Statement .res6IndHl :=
  ⟨_, _, rfl, rfl⟩

theorem EncodingLength.res6A : Statement .res6A :=
  ⟨_, _, rfl, rfl⟩

theorem EncodingLength.res7B : Statement .res7B :=
  ⟨_, _, rfl, rfl⟩

theorem EncodingLength.res7C : Statement .res7C :=
  ⟨_, _, rfl, rfl⟩

theorem EncodingLength.res7D : Statement .res7D :=
  ⟨_, _, rfl, rfl⟩

theorem EncodingLength.res7E : Statement .res7E :=
  ⟨_, _, rfl, rfl⟩

theorem EncodingLength.res7H : Statement .res7H :=
  ⟨_, _, rfl, rfl⟩

theorem EncodingLength.res7L : Statement .res7L :=
  ⟨_, _, rfl, rfl⟩

theorem EncodingLength.res7IndHl : Statement .res7IndHl :=
  ⟨_, _, rfl, rfl⟩

theorem EncodingLength.res7A : Statement .res7A :=
  ⟨_, _, rfl, rfl⟩

theorem EncodingLength.set0B : Statement .set0B :=
  ⟨_, _, rfl, rfl⟩

theorem EncodingLength.set0C : Statement .set0C :=
  ⟨_, _, rfl, rfl⟩

theorem EncodingLength.set0D : Statement .set0D :=
  ⟨_, _, rfl, rfl⟩

theorem EncodingLength.set0E : Statement .set0E :=
  ⟨_, _, rfl, rfl⟩

theorem EncodingLength.set0H : Statement .set0H :=
  ⟨_, _, rfl, rfl⟩

theorem EncodingLength.set0L : Statement .set0L :=
  ⟨_, _, rfl, rfl⟩

theorem EncodingLength.set0IndHl : Statement .set0IndHl :=
  ⟨_, _, rfl, rfl⟩

theorem EncodingLength.set0A : Statement .set0A :=
  ⟨_, _, rfl, rfl⟩

theorem EncodingLength.set1B : Statement .set1B :=
  ⟨_, _, rfl, rfl⟩

theorem EncodingLength.set1C : Statement .set1C :=
  ⟨_, _, rfl, rfl⟩

theorem EncodingLength.set1D : Statement .set1D :=
  ⟨_, _, rfl, rfl⟩

theorem EncodingLength.set1E : Statement .set1E :=
  ⟨_, _, rfl, rfl⟩

theorem EncodingLength.set1H : Statement .set1H :=
  ⟨_, _, rfl, rfl⟩

theorem EncodingLength.set1L : Statement .set1L :=
  ⟨_, _, rfl, rfl⟩

theorem EncodingLength.set1IndHl : Statement .set1IndHl :=
  ⟨_, _, rfl, rfl⟩

theorem EncodingLength.set1A : Statement .set1A :=
  ⟨_, _, rfl, rfl⟩

theorem EncodingLength.set2B : Statement .set2B :=
  ⟨_, _, rfl, rfl⟩

theorem EncodingLength.set2C : Statement .set2C :=
  ⟨_, _, rfl, rfl⟩

theorem EncodingLength.set2D : Statement .set2D :=
  ⟨_, _, rfl, rfl⟩

theorem EncodingLength.set2E : Statement .set2E :=
  ⟨_, _, rfl, rfl⟩

theorem EncodingLength.set2H : Statement .set2H :=
  ⟨_, _, rfl, rfl⟩

theorem EncodingLength.set2L : Statement .set2L :=
  ⟨_, _, rfl, rfl⟩

theorem EncodingLength.set2IndHl : Statement .set2IndHl :=
  ⟨_, _, rfl, rfl⟩

theorem EncodingLength.set2A : Statement .set2A :=
  ⟨_, _, rfl, rfl⟩

theorem EncodingLength.set3B : Statement .set3B :=
  ⟨_, _, rfl, rfl⟩

theorem EncodingLength.set3C : Statement .set3C :=
  ⟨_, _, rfl, rfl⟩

theorem EncodingLength.set3D : Statement .set3D :=
  ⟨_, _, rfl, rfl⟩

theorem EncodingLength.set3E : Statement .set3E :=
  ⟨_, _, rfl, rfl⟩

theorem EncodingLength.set3H : Statement .set3H :=
  ⟨_, _, rfl, rfl⟩

theorem EncodingLength.set3L : Statement .set3L :=
  ⟨_, _, rfl, rfl⟩

theorem EncodingLength.set3IndHl : Statement .set3IndHl :=
  ⟨_, _, rfl, rfl⟩

theorem EncodingLength.set3A : Statement .set3A :=
  ⟨_, _, rfl, rfl⟩

theorem EncodingLength.set4B : Statement .set4B :=
  ⟨_, _, rfl, rfl⟩

theorem EncodingLength.set4C : Statement .set4C :=
  ⟨_, _, rfl, rfl⟩

theorem EncodingLength.set4D : Statement .set4D :=
  ⟨_, _, rfl, rfl⟩

theorem EncodingLength.set4E : Statement .set4E :=
  ⟨_, _, rfl, rfl⟩

theorem EncodingLength.set4H : Statement .set4H :=
  ⟨_, _, rfl, rfl⟩

theorem EncodingLength.set4L : Statement .set4L :=
  ⟨_, _, rfl, rfl⟩

theorem EncodingLength.set4IndHl : Statement .set4IndHl :=
  ⟨_, _, rfl, rfl⟩

theorem EncodingLength.set4A : Statement .set4A :=
  ⟨_, _, rfl, rfl⟩

theorem EncodingLength.set5B : Statement .set5B :=
  ⟨_, _, rfl, rfl⟩

theorem EncodingLength.set5C : Statement .set5C :=
  ⟨_, _, rfl, rfl⟩

theorem EncodingLength.set5D : Statement .set5D :=
  ⟨_, _, rfl, rfl⟩

theorem EncodingLength.set5E : Statement .set5E :=
  ⟨_, _, rfl, rfl⟩

theorem EncodingLength.set5H : Statement .set5H :=
  ⟨_, _, rfl, rfl⟩

theorem EncodingLength.set5L : Statement .set5L :=
  ⟨_, _, rfl, rfl⟩

theorem EncodingLength.set5IndHl : Statement .set5IndHl :=
  ⟨_, _, rfl, rfl⟩

theorem EncodingLength.set5A : Statement .set5A :=
  ⟨_, _, rfl, rfl⟩

theorem EncodingLength.set6B : Statement .set6B :=
  ⟨_, _, rfl, rfl⟩

theorem EncodingLength.set6C : Statement .set6C :=
  ⟨_, _, rfl, rfl⟩

theorem EncodingLength.set6D : Statement .set6D :=
  ⟨_, _, rfl, rfl⟩

theorem EncodingLength.set6E : Statement .set6E :=
  ⟨_, _, rfl, rfl⟩

theorem EncodingLength.set6H : Statement .set6H :=
  ⟨_, _, rfl, rfl⟩

theorem EncodingLength.set6L : Statement .set6L :=
  ⟨_, _, rfl, rfl⟩

theorem EncodingLength.set6IndHl : Statement .set6IndHl :=
  ⟨_, _, rfl, rfl⟩

theorem EncodingLength.set6A : Statement .set6A :=
  ⟨_, _, rfl, rfl⟩

theorem EncodingLength.set7B : Statement .set7B :=
  ⟨_, _, rfl, rfl⟩

theorem EncodingLength.set7C : Statement .set7C :=
  ⟨_, _, rfl, rfl⟩

theorem EncodingLength.set7D : Statement .set7D :=
  ⟨_, _, rfl, rfl⟩

theorem EncodingLength.set7E : Statement .set7E :=
  ⟨_, _, rfl, rfl⟩

theorem EncodingLength.set7H : Statement .set7H :=
  ⟨_, _, rfl, rfl⟩

theorem EncodingLength.set7L : Statement .set7L :=
  ⟨_, _, rfl, rfl⟩

theorem EncodingLength.set7IndHl : Statement .set7IndHl :=
  ⟨_, _, rfl, rfl⟩

theorem EncodingLength.set7A : Statement .set7A :=
  ⟨_, _, rfl, rfl⟩

end Sys2Proof.Laws
end

