-- ==== Sys2Proof/Tests/Slice0.lean ====
section
/-! SUPPORT. Tests: ill-formed terms, words written out from the encodings, single steps with the results of
95_test_vectors.md (its vectors are computed from the rules, its Part 1 is the source's own), and a witness for the
hypotheses of each statement. -/

namespace Sys2Proof.Tests

open Sys2Proof Sys2Proof.Machine

/-! ## Ill-formed terms -/

/-- The one check of `WellFormed`: the prefix byte is no instruction by itself (46_cpu_control.md R327). -/
theorem test_prefix_is_ill_formed : WellFormed (.prefixCb 0x37#8) = false := by decide

theorem test_swap_is_well_formed : WellFormed .swapA = true := by decide

/-! ## Decoding, word by word from the rules' encodings -/

/-- `LD r8,r8` is 01 ddd rrr (R170): D = 2, A = 7. -/
theorem test_decode_ld_d_a : decode [0b01_010_111#8] = .ok (.ldDA, []) := by rfl

/-- `LD r8,d8` is 00 ddd 110, then the byte (R171): L = 5. -/
theorem test_decode_ld_l_d8 : decode [0b00_101_110#8, 0x9C#8] = .ok (.ldLD8 0x9C#8, []) := by rfl

/-- `LD r16,d16` is 00 pp 0001, then the low and the high byte (R200, R76): SP = 3. -/
theorem test_decode_ld_sp_d16 : decode [0b00_11_0001#8, 0xFE#8, 0xFF#8] = .ok (.ldSpD16 0xFFFE#16, []) := by rfl

/-- `PUSH r16stk` is 11 pp 0101 (R204): AF = 3. -/
theorem test_decode_push_af : decode [0b11_11_0101#8] = .ok (.pushAf, []) := by rfl

/-- The ALU forms are 10 ooo rrr (R230): SBC = 3, E = 3. -/
theorem test_decode_sbc_e : decode [0b10_011_011#8] = .ok (.sbcAE, []) := by rfl

/-- The immediate forms are 11 ooo 110 (R244): CP = 7. -/
theorem test_decode_cp_d8 : decode [0b11_111_110#8, 0x3C#8] = .ok (.cpAD8 0x3C#8, []) := by rfl

/-- `INC r8` is 00 ddd 100 (R246): (HL) = 6. -/
theorem test_decode_inc_ind_hl : decode [0b00_110_100#8] = .ok (.incIndHl, []) := by rfl

/-- `ADD HL,r16` is 00 pp 1001 (R260): DE = 1. -/
theorem test_decode_add_hl_de : decode [0b00_01_1001#8] = .ok (.addHlDe, []) := by rfl

/-- The rotates are CB, then 00 ooo rrr (R281): RR = 3, H = 4. -/
theorem test_decode_rr_h : decode [0xCB#8, 0b00_011_100#8] = .ok (.rrH, []) := by rfl

/-- `BIT b,r8` is CB, then 01 bbb rrr (R291): bit 4, C = 1. -/
theorem test_decode_bit4_c : decode [0xCB#8, 0b01_100_001#8] = .ok (.bit4C, []) := by rfl

/-- `RES b,(HL)` is CB, then 10 bbb 110 (R294): bit 3. -/
theorem test_decode_res3_ind_hl : decode [0xCB#8, 0b10_011_110#8] = .ok (.res3IndHl, []) := by rfl

/-- `JP cc,a16` is 110 cc 010 with the condition in bits 4:3 (R301): NC = 2. -/
theorem test_decode_jp_nc : decode [0b110_10_010#8, 0x00#8, 0xD0#8] = .ok (.jpNcA16 0xD000#16, []) := by rfl

/-- `RST t` is 11 ttt 111 (R310): target 0x28 = 8 * 5. -/
theorem test_decode_rst28 : decode [0b11_101_111#8] = .ok (.rst28, []) := by rfl

/-- EI is 0xFB, HALT 0x76 (R326, R321). -/
theorem test_decode_ei_halt : decode [0b11111011#8, 0b01110110#8] = .ok (.ei, [0x76#8]) := by rfl

/-- An instruction whose bytes end early is refused by name. -/
theorem test_decode_truncated : decode [0b11_001_101#8, 0x00#8] = .error .truncated := by rfl

/-- A word of the table: a primary row's byte alone, a secondary row as 0xCBxx (log 6). -/
theorem test_table_words : decodeTableWord 8 0xAF = some .xorAA ∧ decodeTableWord 16 0xCB7E = some .bit7IndHl := by
  decide

/-! ## Single CPU steps -/

/-- The common start of 95_test_vectors.md, Part 2. -/
def base : State :=
  { State.reset with
    pc := 0xC000#16, sp := 0xDFF0#16, f := { z := false, n := false, hf := false, cf := false } }

/-- Three bytes at 0xC000. -/
def code (b0 b1 b2 : Byte) (s : State) : State := { s with wram := ((s.wram.write 0 b0).write 1 b1).write 2 b2 }

/-- What one CPU step (R140) of the bytes at PC leaves. -/
def after (s : State) (p : State → Bool) : Bool :=
  match exec (fetchInstr s) s with
  | .next t => p t
  | _ => false

/-- What one machine step (R380) leaves. -/
def stepped (s : State) (p : State → Bool) : Bool :=
  match step s with
  | .next t => p t
  | _ => false

/-- S1: the source's own scenario, at work RAM instead of ROM. -/
theorem test_s1_ld_bc_d16 :
    after (code 0x01#8 0x34#8 0x12#8 base)
      (fun t => t.regs.b == 0x12#8 && t.regs.c == 0x34#8 && t.pc == 0xC003#16 && t.cost == 12) = true := by decide

/-- S2: the source's own scenario. -/
theorem test_s2_xor_a :
    after (code 0xAF#8 0x00#8 0x00#8 { base with regs := { base.regs with a := 0x55#8 } })
      (fun t => t.regs.a == 0x00#8 && t.f.toByte == 0x80#8 && t.pc == 0xC001#16 && t.cost == 4) = true := by decide

/-- V3 (R171). -/
theorem test_ld_b_d8 :
    after (code 0x06#8 0x7E#8 0x00#8 base)
      (fun t => t.regs.b == 0x7E#8 && t.pc == 0xC002#16 && t.cost == 8) = true := by decide

/-- V4 (R172). -/
theorem test_ld_b_ind_hl :
    after (writeByte (code 0x46#8 0x00#8 0x00#8 { base with regs := { base.regs with h := 0xC1#8, l := 0x00#8 } })
      0xC100#16 0x3C#8)
      (fun t => t.regs.b == 0x3C#8 && t.pc == 0xC001#16 && t.cost == 8) = true := by decide

/-- V8 (R176). -/
theorem test_ld_a_ind_de :
    after (writeByte (code 0x1A#8 0x00#8 0x00#8 { base with regs := { base.regs with d := 0xC1#8, e := 0x02#8 } })
      0xC102#16 0x66#8)
      (fun t => t.regs.a == 0x66#8 && t.pc == 0xC001#16 && t.cost == 8) = true := by decide

/-- V11 (R179). -/
theorem test_ld_a_ind_a16 :
    after (writeByte (code 0xFA#8 0x00#8 0xC2#8 base) 0xC200#16 0x9A#8)
      (fun t => t.regs.a == 0x9A#8 && t.pc == 0xC003#16 && t.cost == 16) = true := by decide

/-- V16 (R183, R94). -/
theorem test_ldh_a_if :
    after (code 0xF0#8 0x0F#8 0x00#8 { base with ifr := 0x05#5 })
      (fun t => t.regs.a == 0xE5#8 && t.pc == 0xC002#16 && t.cost == 12) = true := by decide

/-- V21 (R186). -/
theorem test_ld_hl_dec_wraps :
    after (code 0x32#8 0x00#8 0x00#8 
        { base with
          regs := { base.regs with h := 0x00#8, l := 0x00#8, a := 0x33#8 } })
      (fun t => t.regs.h == 0xFF#8 && t.regs.l == 0xFF#8 && t.pc == 0xC001#16 && t.cost == 8) = true := by decide

/-- V22 (R187). -/
theorem test_ld_hl_inc_wraps :
    after (code 0x2A#8 0x00#8 0x00#8 
        { base with
          regs := { base.regs with h := 0xFF#8, l := 0xFF#8, a := 0x00#8 } })
      (fun t => t.regs.h == 0x00#8 && t.regs.l == 0x00#8 && t.pc == 0xC001#16 && t.cost == 8) = true := by decide

/-- V26 (R173, R85). -/
theorem test_store_to_echo :
    after (code 0x77#8 0x00#8 0x00#8 
        { base with
          regs := { base.regs with h := 0xE0#8, l := 0x00#8, a := 0x55#8 } })
      (fun t => t.pc == 0xC001#16 && readByte t 0xE000#16 == 0xFF#8 && readByte t 0xC000#16 == 0x77#8 && t.cost == 8)
        = true := by decide

/-- V29 (R201). -/
theorem test_ld_ind_a16_sp :
    after (code 0x08#8 0x00#8 0xC3#8 { base with sp := 0xABCD#16 })
      (fun t => t.pc == 0xC003#16 && readByte t 0xC300#16 == 0xCD#8 && readByte t 0xC301#16 == 0xAB#8 && t.cost ==
        20) = true := by decide

/-- V31 (R203). -/
theorem test_ld_hl_sp_e8 :
    after (code 0xF8#8 0x02#8 0x00#8 { base with sp := 0xFFFE#16 })
      (fun t => t.f.toByte == 0x30#8 && t.regs.h == 0x00#8 && t.regs.l == 0x00#8 && t.pc == 0xC002#16 && t.cost ==
        12) = true := by decide

/-- V35 (R204). -/
theorem test_push_af_to_ie :
    after (code 0xF5#8 0x00#8 0x00#8 
        { base with
          regs := { base.regs with a := 0x12#8 }
          f := Flags.ofByte 0xB0#8
          sp := 0x0001#16 })
      (fun t => t.sp == 0xFFFF#16 && t.pc == 0xC001#16 && t.ie == 0xB0#8 && readByte t 0xFFFF#16 == 0xB0#8 &&
        readByte t 0x0000#16 == 0x00#8 && t.cost == 16) = true := by decide

/-- V37 (R208). -/
theorem test_pop_af_low_nibble :
    after (writeByte (writeByte (code 0xF1#8 0x00#8 0x00#8 { base with sp := 0xDFEE#16 }) 0xDFEE#16 0xFF#8) 0xDFEF#16
      0x12#8)
      (fun t => t.regs.a == 0x12#8 && t.f.toByte == 0xF0#8 && t.sp == 0xDFF0#16 && t.pc == 0xC001#16 && t.cost == 12)
        = true := by decide

/-- V39 (R221). -/
theorem test_add_wraps :
    after (code 0x80#8 0x00#8 0x00#8 { base with regs := { base.regs with a := 0x3A#8, b := 0xC6#8 } })
      (fun t => t.regs.a == 0x00#8 && t.f.toByte == 0xB0#8 && t.pc == 0xC001#16 && t.cost == 4) = true := by decide

/-- V45 (R224). -/
theorem test_adc_all_ones :
    after (code 0x88#8 0x00#8 0x00#8 
        { base with
          regs := { base.regs with a := 0xFF#8, b := 0xFF#8 }
          f := Flags.ofByte 0x10#8 })
      (fun t => t.f.toByte == 0x30#8 && t.pc == 0xC001#16 && t.cost == 4) = true := by decide

/-- V49 (R227). -/
theorem test_sub_borrows :
    after (code 0x90#8 0x00#8 0x00#8 { base with regs := { base.regs with a := 0x00#8, b := 0x01#8 } })
      (fun t => t.regs.a == 0xFF#8 && t.f.toByte == 0x70#8 && t.pc == 0xC001#16 && t.cost == 4) = true := by decide

/-- V54 (R230). -/
theorem test_sbc_half_borrow :
    after (code 0x98#8 0x00#8 0x00#8 
        { base with
          regs := { base.regs with a := 0x10#8, b := 0x0F#8 }
          f := Flags.ofByte 0x10#8 })
      (fun t => t.regs.a == 0x00#8 && t.f.toByte == 0xE0#8 && t.pc == 0xC001#16 && t.cost == 4) = true := by decide

/-- V57 (R233). -/
theorem test_and_flags :
    after (code 0xA0#8 0x00#8 0x00#8 
        { base with
          regs := { base.regs with a := 0x5A#8, b := 0x3F#8 }
          f := Flags.ofByte 0x50#8 })
      (fun t => t.regs.a == 0x1A#8 && t.f.toByte == 0x20#8 && t.pc == 0xC001#16 && t.cost == 4) = true := by decide

/-- V61 (R236). -/
theorem test_xor_flags :
    after (code 0xA8#8 0x00#8 0x00#8 { base with regs := { base.regs with a := 0xFF#8, b := 0x0F#8 } })
      (fun t => t.regs.a == 0xF0#8 && t.pc == 0xC001#16 && t.cost == 4) = true := by decide

/-- V66 (R241). -/
theorem test_or_flags :
    after (code 0xF6#8 0x03#8 0x00#8 { base with regs := { base.regs with a := 0x5A#8 } })
      (fun t => t.regs.a == 0x5B#8 && t.pc == 0xC002#16 && t.cost == 8) = true := by decide

/-- V69 (R243). -/
theorem test_cp_borrows :
    after (writeByte (code 0xBE#8 0x00#8 0x00#8 
        { base with
          regs := { base.regs with a := 0x3C#8, h := 0xC1#8, l := 0x00#8 } }) 0xC100#16 0x40#8)
      (fun t => t.f.toByte == 0x50#8 && t.pc == 0xC001#16 && t.cost == 8) = true := by decide

/-- V72 (R245). -/
theorem test_inc_wraps :
    after (code 0x3C#8 0x00#8 0x00#8 
        { base with
          regs := { base.regs with a := 0xFF#8 }
          f := Flags.ofByte 0x10#8 })
      (fun t => t.regs.a == 0x00#8 && t.f.toByte == 0xB0#8 && t.pc == 0xC001#16 && t.cost == 4) = true := by decide

/-- V74 (R247). -/
theorem test_dec_keeps_carry :
    after (code 0x05#8 0x00#8 0x00#8 
        { base with
          regs := { base.regs with b := 0x10#8 }
          f := Flags.ofByte 0x10#8 })
      (fun t => t.f.toByte == 0x70#8 && t.regs.b == 0x0F#8 && t.pc == 0xC001#16 && t.cost == 4) = true := by decide

/-- V77 (R248). -/
theorem test_dec_ind_hl :
    after (writeByte (code 0x35#8 0x00#8 0x00#8 { base with regs := { base.regs with h := 0xC1#8, l := 0x00#8 } })
      0xC100#16 0x00#8)
      (fun t => t.f.toByte == 0x60#8 && t.pc == 0xC001#16 && readByte t 0xC100#16 == 0xFF#8 && t.cost == 12) = true
        := by decide

/-- V79 (R249). -/
theorem test_daa_after_add :
    after (code 0x27#8 0x00#8 0x00#8 
        { base with
          regs := { base.regs with a := 0x9A#8 }
          f := Flags.ofByte 0x00#8 })
      (fun t => t.regs.a == 0x00#8 && t.f.toByte == 0x90#8 && t.pc == 0xC001#16 && t.cost == 4) = true := by decide

/-- V82 (R249). -/
theorem test_daa_after_sub :
    after (code 0x27#8 0x00#8 0x00#8 
        { base with
          regs := { base.regs with a := 0xFA#8 }
          f := Flags.ofByte 0x60#8 })
      (fun t => t.regs.a == 0xF4#8 && t.f.toByte == 0x40#8 && t.pc == 0xC001#16 && t.cost == 4) = true := by decide

/-- V85 (R250). -/
theorem test_cpl :
    after (code 0x2F#8 0x00#8 0x00#8 
        { base with
          regs := { base.regs with a := 0x35#8 }
          f := Flags.ofByte 0x90#8 })
      (fun t => t.regs.a == 0xCA#8 && t.f.toByte == 0xF0#8 && t.pc == 0xC001#16 && t.cost == 4) = true := by decide

/-- V87 (R252). -/
theorem test_ccf :
    after (code 0x3F#8 0x00#8 0x00#8 { base with f := Flags.ofByte 0xF0#8 })
      (fun t => t.f.toByte == 0x80#8 && t.pc == 0xC001#16 && t.cost == 4) = true := by decide

/-- V90 (R260). -/
theorem test_add_hl_hl :
    after (code 0x29#8 0x00#8 0x00#8 
        { base with
          regs := { base.regs with h := 0x8A#8, l := 0x23#8 }
          f := Flags.ofByte 0x40#8 })
      (fun t => t.f.toByte == 0x30#8 && t.regs.h == 0x14#8 && t.regs.l == 0x46#8 && t.pc == 0xC001#16 && t.cost == 8)
        = true := by decide

/-- V93 (R261). -/
theorem test_inc_bc_wraps :
    after (code 0x03#8 0x00#8 0x00#8 
        { base with
          regs := { base.regs with b := 0xFF#8, c := 0xFF#8 }
          f := Flags.ofByte 0xF0#8 })
      (fun t => t.regs.b == 0x00#8 && t.regs.c == 0x00#8 && t.pc == 0xC001#16 && t.cost == 8) = true := by decide

/-- V95 (R262). -/
theorem test_dec_de_wraps :
    after (code 0x1B#8 0x00#8 0x00#8 
        { base with
          regs := { base.regs with d := 0x00#8, e := 0x00#8 }
          f := Flags.ofByte 0x00#8 })
      (fun t => t.regs.d == 0xFF#8 && t.regs.e == 0xFF#8 && t.pc == 0xC001#16 && t.cost == 8) = true := by decide

/-- V97 (R263). -/
theorem test_add_sp_e8 :
    after (code 0xE8#8 0x02#8 0x00#8 { base with sp := 0xFFFE#16, f := Flags.ofByte 0xC0#8 })
      (fun t => t.f.toByte == 0x30#8 && t.sp == 0x0000#16 && t.pc == 0xC002#16 && t.cost == 16) = true := by decide

/-- V100 (R270). -/
theorem test_rlca :
    after (code 0x07#8 0x00#8 0x00#8 
        { base with
          regs := { base.regs with a := 0x85#8 }
          f := Flags.ofByte 0xF0#8 })
      (fun t => t.regs.a == 0x0B#8 && t.f.toByte == 0x10#8 && t.pc == 0xC001#16 && t.cost == 4) = true := by decide

/-- V106 (R273). -/
theorem test_rra :
    after (code 0x1F#8 0x00#8 0x00#8 
        { base with
          regs := { base.regs with a := 0x02#8 }
          f := Flags.ofByte 0x10#8 })
      (fun t => t.regs.a == 0x81#8 && t.f.toByte == 0x00#8 && t.pc == 0xC001#16 && t.cost == 4) = true := by decide

/-- V113 (R279). -/
theorem test_rl_carry_in :
    after (code 0xCB#8 0x13#8 0x00#8 
        { base with
          regs := { base.regs with e := 0x7F#8 }
          f := Flags.ofByte 0x10#8 })
      (fun t => t.f.toByte == 0x00#8 && t.regs.e == 0xFF#8 && t.pc == 0xC002#16 && t.cost == 8) = true := by decide

/-- V117 (R282). -/
theorem test_rr_ind_hl :
    after (writeByte (code 0xCB#8 0x1E#8 0x00#8 { base with regs := { base.regs with h := 0xC1#8, l := 0x00#8 } })
      0xC100#16 0x8A#8)
      (fun t => t.pc == 0xC002#16 && readByte t 0xC100#16 == 0x45#8 && t.cost == 16) = true := by decide

/-- V121 (R285). -/
theorem test_sra_sign :
    after (code 0xCB#8 0x2F#8 0x00#8 { base with regs := { base.regs with a := 0x81#8 } })
      (fun t => t.regs.a == 0xC0#8 && t.f.toByte == 0x10#8 && t.pc == 0xC002#16 && t.cost == 8) = true := by decide

/-- V124 (R287). -/
theorem test_swap :
    after (code 0xCB#8 0x37#8 0x00#8 
        { base with
          regs := { base.regs with a := 0xF1#8 }
          f := Flags.ofByte 0xF0#8 })
      (fun t => t.regs.a == 0x1F#8 && t.f.toByte == 0x00#8 && t.pc == 0xC002#16 && t.cost == 8) = true := by decide

/-- V128 (R289). -/
theorem test_srl_to_zero :
    after (code 0xCB#8 0x38#8 0x00#8 { base with regs := { base.regs with b := 0x01#8 } })
      (fun t => t.f.toByte == 0x90#8 && t.regs.b == 0x00#8 && t.pc == 0xC002#16 && t.cost == 8) = true := by decide

/-- V134 (R292). -/
theorem test_bit_ind_hl :
    after (writeByte (code 0xCB#8 0x46#8 0x00#8 
        { base with
          regs := { base.regs with h := 0xC1#8, l := 0x00#8 }
          f := Flags.ofByte 0xD0#8 }) 0xC100#16 0x01#8)
      (fun t => t.f.toByte == 0x30#8 && t.pc == 0xC002#16 && readByte t 0xC100#16 == 0x01#8 && t.cost == 12) = true
        := by decide

/-- V137 (R294). -/
theorem test_res_ind_hl :
    after (writeByte (code 0xCB#8 0x9E#8 0x00#8 { base with regs := { base.regs with h := 0xC1#8, l := 0x00#8 } })
      0xC100#16 0xFF#8)
      (fun t => t.pc == 0xC002#16 && readByte t 0xC100#16 == 0xF7#8 && t.cost == 16) = true := by decide

/-- V141 (R296). -/
theorem test_set_on_rom :
    after (code 0xCB#8 0xC6#8 0x00#8 { base with regs := { base.regs with h := 0x20#8, l := 0x00#8 } })
      (fun t => t.pc == 0xC002#16 && readByte t 0x2000#16 == 0x00#8 && t.cost == 16) = true := by decide

/-- V143 (R301). -/
theorem test_jp_nz_taken :
    after (code 0xC2#8 0x00#8 0xD0#8 { base with f := Flags.ofByte 0x00#8 })
      (fun t => t.pc == 0xD000#16 && t.cost == 16) = true := by decide

/-- V144 (R301). -/
theorem test_jp_nz_not_taken :
    after (code 0xC2#8 0x00#8 0xD0#8 { base with f := Flags.ofByte 0x80#8 })
      (fun t => t.pc == 0xC003#16 && t.cost == 12) = true := by decide

/-- V148 (R302). -/
theorem test_jp_hl :
    after (code 0xE9#8 0x00#8 0x00#8 { base with regs := { base.regs with h := 0xFF#8, l := 0x80#8 } })
      (fun t => t.pc == 0xFF80#16 && t.cost == 4) = true := by decide

/-- V151 (R303). -/
theorem test_jr_backwards :
    after (code 0x18#8 0x80#8 0x00#8 base)
      (fun t => t.pc == 0xBF82#16 && t.cost == 12) = true := by decide

/-- V155 (R304). -/
theorem test_jr_z_backwards :
    after (code 0x28#8 0xFC#8 0x00#8 { base with f := Flags.ofByte 0x80#8 })
      (fun t => t.pc == 0xBFFE#16 && t.cost == 12) = true := by decide

/-- V158 (R305). -/
theorem test_call :
    after (code 0xCD#8 0x00#8 0xD0#8 base)
      (fun t => t.sp == 0xDFEE#16 && t.pc == 0xD000#16 && readByte t 0xDFEE#16 == 0x03#8 && readByte t 0xDFEF#16 ==
        0xC0#8 && t.cost == 24) = true := by decide

/-- V159 (R306). -/
theorem test_call_nz_not_taken :
    after (code 0xC4#8 0x00#8 0xD0#8 { base with f := Flags.ofByte 0x80#8 })
      (fun t => t.pc == 0xC003#16 && readByte t 0xDFEE#16 == 0x00#8 && readByte t 0xDFEF#16 == 0x00#8 && t.cost ==
        12) = true := by decide

/-- V163 (R308). -/
theorem test_ret_nz :
    after (writeByte (writeByte (code 0xC0#8 0x00#8 0x00#8 { base with f := Flags.ofByte 0x00#8, sp := 0xDFEE#16 })
      0xDFEE#16 0x03#8) 0xDFEF#16 0xC0#8)
      (fun t => t.sp == 0xDFF0#16 && t.pc == 0xC003#16 && t.cost == 20) = true := by decide

/-- V166 (R309). -/
theorem test_reti :
    after (writeByte (writeByte (code 0xD9#8 0x00#8 0x00#8 { base with sp := 0xDFEE#16 }) 0xDFEE#16 0x03#8) 0xDFEF#16
      0xC0#8)
      (fun t => t.sp == 0xDFF0#16 && t.pc == 0xC003#16 && t.imePending == true && t.cost == 16) = true := by decide

/-- V169 (R310). -/
theorem test_rst_28 :
    after (code 0xEF#8 0x00#8 0x00#8 base)
      (fun t => t.sp == 0xDFEE#16 && t.pc == 0x0028#16 && readByte t 0xDFEE#16 == 0x01#8 && readByte t 0xDFEF#16 ==
        0xC0#8 && t.cost == 16) = true := by decide

/-- V172 (R320). -/
theorem test_nop :
    after (code 0x00#8 0x00#8 0x00#8 { base with f := Flags.ofByte 0xF0#8 })
      (fun t => t.pc == 0xC001#16 && t.cost == 4) = true := by decide

/-- V176 (R321). -/
theorem test_halt_with_ime :
    after (code 0x76#8 0x00#8 0x00#8 { base with ime := true, ie := 0x04#8, ifr := 0x04#5 })
      (fun t => t.pc == 0xC001#16 && t.halted == true && t.cost == 4) = true := by decide

/-- V177 (R325). -/
theorem test_di :
    after (code 0xF3#8 0x00#8 0x00#8 { base with ime := true })
      (fun t => t.pc == 0xC001#16 && t.ime == false && t.cost == 4) = true := by decide

/-- V179 (R326). -/
theorem test_ei :
    after (code 0xFB#8 0x00#8 0x00#8 { base with ime := false })
      (fun t => t.pc == 0xC001#16 && t.imePending == true && t.cost == 4) = true := by decide

/-- V183 (R324). -/
theorem test_stop :
    after (code 0x10#8 0x00#8 0x00#8 base)
      (fun t => t.fault == some (0x10#8, 0xC000#16)) = true := by decide

/-- V184 (R328). -/
theorem test_illegal_d3 :
    after (code 0xD3#8 0x00#8 0x00#8 base)
      (fun t => t.fault == some (0xD3#8, 0xC000#16)) = true := by decide


/-! ## Machine steps, the timer, the interrupts, the bus -/

/-- V220, step 2 (R380, R353): a request written by software is dispatched in the same machine step, in 12 + 20 cycles. -/
theorem test_step_dispatches :
    stepped (code 0xE0#8 0x0F#8 0x00#8 { base with regs := { base.regs with a := 0x04#8 }, ime := true, ie := 0x04#8 })
      (fun t => t.pc == 0x0050#16 && t.sp == 0xDFEE#16 && t.ime == false && t.ifr == 0#5 && t.cycles == 32) = true := by
  decide

/-- V183 at machine level (R381): the fault freezes the state, and then there is no step. -/
theorem test_step_stop_faults :
    stepped (code 0x10#8 0x00#8 0x00#8 base)
      (fun t => t.fault == some (0x10#8, 0xC000#16) && t.pc == 0xC000#16 && t.cycles == 0 && !stepped t (fun _ => true))
        = true := by decide

/-- V175 in one step (R323): with the HALT bug pending, the byte after HALT is read twice: INC A, PC back by one. -/
theorem test_halt_bug_reads_twice :
    after (code 0x3C#8 0x00#8 0x00#8 { base with haltBug := true })
      (fun t => t.regs.a == 0x02#8 && t.pc == 0xC000#16 && t.haltBug == false) = true := by decide

/-- V189 (R371, R372, the source's timer property). -/
theorem test_timer_overflow :
    (let t := timerTick 32 { State.reset with timer := { State.reset.timer with tac := 5#3, tima := 0xFE#8, tma := 0x80#8 } }
    t.timer.div == 0x0020#16 && t.timer.acc == 0 && t.timer.tima == 0x80#8 && t.ifr == 0x04#5) = true := by decide

/-- V192 (R371): three periods in one call. -/
theorem test_timer_three_periods :
    (let t := timerTick 48 { State.reset with timer := { State.reset.timer with tac := 5#3, tima := 0xFF#8, tma := 0xFE#8 } }
    t.timer.acc == 0 && t.timer.tima == 0xFE#8 && t.ifr == 0x04#5) = true := by decide

/-- V205 (R353, R354): V-Blank before the timer. -/
theorem test_interrupt_priority :
    (let r := interruptStep { base with pc := 0xC123#16, ime := true, ie := 0x1F#8, ifr := 0x05#5 }
    r.1.pc == 0x0040#16 && r.1.ifr == 0x04#5 && r.1.ime == false && readByte r.1 0xDFEE#16 == 0x23#8 &&
      readByte r.1 0xDFEF#16 == 0xC1#8 && r.2 == some 20) = true := by decide

/-- V219 (R353): the push wraps, its low byte lands on IE and its high byte in ROM. -/
theorem test_interrupt_push_wraps :
    (let r := interruptStep { base with pc := 0xC123#16, sp := 0x0001#16, ime := true, ie := 0x01#8, ifr := 0x01#5 }
    r.1.pc == 0x0040#16 && r.1.sp == 0xFFFF#16 && r.1.ie == 0x23#8 && readByte r.1 0x0000#16 == 0x00#8) = true := by
  decide

/-- V202 (R93): a new selector clears the accumulator. -/
theorem test_tac_selector_change :
    (let t := writeByte { base with timer := { base.timer with tac := 6#3, acc := 60 } } 0xFF07#16 0x07#8
    t.timer.acc == 0 && t.timer.tac == 7#3 && readByte t 0xFF07#16 == 0xFF#8) = true := by decide

/-- V240 (R81, R97): with one video bank VBK is stored and read back, and selects nothing. -/
theorem test_vector_v240 :
    let s := { base with cfg := { base.cfg with vramBanks := .one } }
    let t := writeByte (writeByte s 0x8000#16 0x11#8) 0xFF4F#16 0xFF#8
    readByte t 0xFF4F#16 = 0xFF#8 ∧ readByte t 0x8000#16 = 0x11#8 ∧
      readByte (writeByte t 0xFF4F#16 0x00#8) 0xFF4F#16 = 0xFE#8 := by decide

/-- V242 (R84, R98): with two work banks SVBK is stored and read back, and selects nothing. -/
theorem test_vector_v242 :
    let s := { base with cfg := { base.cfg with wramBanks := .two } }
    let t := writeByte (writeByte s 0xD000#16 0x11#8) 0xFF70#16 0x03#8
    readByte t 0xD000#16 = 0x11#8 ∧ readByte t 0xFF70#16 = 0xFB#8 := by decide

/-- V245 (R95, R85): DMA from the echo region copies 0xFF. -/
theorem test_dma_from_echo :
    (let t := writeByte base 0xFF46#16 0xE0#8
    readByte t 0xFE00#16 == 0xFF#8 && readByte t 0xFE9F#16 == 0xFF#8 && readByte t 0xFF46#16 == 0xE0#8) = true := by
  decide +kernel

/-- The cartridges of the bank tests: bank 1's and bank 0x20's first bytes are 1 and 0x20. -/
def banked (c : Cart) : State :=
  { base with
    cfg := { base.cfg with rom := [(0x4000, 0x01#8), (0x80000, 0x20#8), (0x84000, 0x21#8)], nbanks := 64, cramSize := .kib32 }
    cart := c }

/-- V249, last accesses (R114, R115): `bank_lo` 0 becomes 1 under `bank_hi` 1. -/
theorem test_mbc1_bank_zero :
    (let t := writeByte (banked (.mbc1 { ramEnable := false, bankLo := 3#5, bankHi := 1#2, mode := true })) 0x2000#16 0x00#8
    readByte t 0x4000#16 == 0x21#8 && readByte t 0x0000#16 == 0x20#8) = true := by decide

/-- V254 (R120): a clock byte shows at every address of the window. -/
theorem test_mbc3_clock :
    (let s := banked (.mbc3 { ramEnable := true, romBank := 1#7, ramSel := 8#4, rtc := [] })
    let t := writeByte s 0xA000#16 0x3B#8
    readByte t 0xBFFF#16 == 0x3B#8 && t.cram == []) = true := by decide

/-- V255 (R122): bank 0 is bank 0 on MBC5. -/
theorem test_mbc5_bank_zero :
    (let t := writeByte (banked (.mbc5 { ramEnable := false, romBank := 1#9, ramSel := 0#4 })) 0x2000#16 0x00#8
    readByte t 0x4000#16 == readByte t 0x0000#16) = true := by decide

/-- R110, R341: the type byte selects the variant, an unknown one is an error. -/
theorem test_cartridge_types :
    variantOf 0x03#8 = some .mbc1 ∧ variantOf 0x13#8 = some .mbc3 ∧ variantOf 0x1B#8 = some .mbc5 ∧
      variantOf 0x05#8 = none := by decide

/-- An instruction placed by `withFetchWord` is the one the next step runs (log 5). -/
theorem test_with_fetch_word :
    stepped (State.reset.withFetchWord 8 0x3C) (fun t => t.regs.a == 0x02#8 && t.pc == 0x0101#16) = true := by decide

/-! ## Witnesses: each statement's hypotheses are met by a concrete state and operands -/

theorem witness_decode_of_encode : WellFormed (.jrE8 0xFF#8) = true := by decide

theorem witness_encode_of_decode : decode [0xCB#8, 0xFF#8, 0x00#8] = .ok (.set7A, [0x00#8]) := by rfl

theorem witness_not_faulted : State.reset.fault = none ∧ State.reset.halted = false := by decide

theorem witness_unimplemented : (0x10#8, 2, Instr.stop) ∈ unimplemented ∧ (0xFD#8, 1, Instr.illegalFD) ∈ unimplemented := by
  decide

/-- `StepRunsDecodedInstruction`: the bytes at PC decode and the instruction answers, with and without the HALT bug. -/
theorem witness_step_runs :
    (code 0x01#8 0x34#8 0x12#8 base).fault = none ∧ (code 0x01#8 0x34#8 0x12#8 base).halted = false ∧
      fetchInstr (code 0x01#8 0x34#8 0x12#8 base) = .ldBcD16 0x1234#16 ∧
      after (code 0x01#8 0x34#8 0x12#8 base) (fun _ => true) = true := by decide

theorem witness_step_runs_decoded :
    let s := code 0x01#8 0x34#8 0x12#8 base
    decode [readByte s s.pc, readByte s (if s.haltBug then s.pc else s.pc + 1#16),
      readByte s (if s.haltBug then s.pc + 1#16 else s.pc + 2#16)] = .ok (.ldBcD16 0x1234#16, []) := by rfl

theorem witness_step_runs_decoded_halt_bug :
    let s := { code 0x06#8 0x3C#8 0x00#8 base with haltBug := true }
    [readByte s s.pc, readByte s (if s.haltBug then s.pc else s.pc + 1#16),
      readByte s (if s.haltBug then s.pc + 1#16 else s.pc + 2#16)] = [0x06#8, 0x06#8, 0x3C#8] := by decide

theorem witness_halt_bug_decodes : decode [0x06#8, 0x06#8, 0x3C#8] = .ok (.ldBD8 0x06#8, [0x3C#8]) := by rfl

theorem witness_halted : { base with halted := true }.fault = none ∧ { base with halted := true }.halted = true := by decide

/-- `FaultEndsTheRun`: STOP at PC; and a recorded fault. -/
theorem witness_fault :
    (readByte (code 0x10#8 0x00#8 0x00#8 base) (code 0x10#8 0x00#8 0x00#8 base).pc).toNat = 0x10 ∧
      { base with fault := some (0xFD#8, 0xC000#16) }.fault = some (0xFD#8, 0xC000#16) := by decide

/-- `ResetValues`, `BankSelectors`: both ends of the work RAM window and of the video RAM window. -/
theorem witness_windows :
    (0xD000 ≤ (0xD000#16).toNat ∧ (0xD000#16).toNat < 0xE000) ∧ (0xD000 ≤ (0xDFFF#16).toNat ∧ (0xDFFF#16).toNat < 0xE000) ∧
      (0x8000 ≤ (0x8000#16).toNat ∧ (0x8000#16).toNat < 0xA000) ∧ (0x8000 ≤ (0x9FFF#16).toNat ∧ (0x9FFF#16).toNat < 0xA000) := by
  decide

/-- `ResetBanks`, the three banking statements: both ends of the ROM windows, the control ranges and the RAM window. -/
theorem witness_cartridge_windows :
    2 ≤ Params.standard.cfg.nbanks ∧ (0x0000#16).toNat < 0x2000 ∧ (0x1FFF#16).toNat < 0x2000 ∧ (0x3FFF#16).toNat < 0x4000 ∧
      (0x4000 ≤ (0x4000#16).toNat ∧ (0x4000#16).toNat < 0x8000) ∧ (0x4000 ≤ (0x7FFF#16).toNat ∧ (0x7FFF#16).toNat < 0x8000) ∧
      (0xA000 ≤ (0xA000#16).toNat ∧ (0xA000#16).toNat < 0xC000) ∧ (0xA000 ≤ (0xBFFF#16).toNat ∧ (0xBFFF#16).toNat < 0xC000) := by
  decide

/-- `ResetValues`, its MBC3 clause. -/
theorem witness_mbc3_params : { Params.standard with variant := .mbc3 }.variant = .mbc3 := by decide

/-- `StepKeepsInvariant`, `StepKeepsConfiguration`: a state of the invariant that steps: at reset, halted, HALT bug pending. -/
theorem witness_invariant :
    State.reset.Inv ∧ { base with halted := true }.Inv ∧ { base with haltBug := true }.Inv ∧
      stepped State.reset (fun _ => true) = true ∧ stepped { base with halted := true } (fun _ => true) = true ∧
      stepped { base with haltBug := true } (fun _ => true) = true := by decide

/-- `StorageReadsBack`, `DmaCopies`: the stores are in form, and each kind of storage has an address. -/
theorem witness_storage :
    let s := banked (.mbc3 { ramEnable := true, romBank := 1#7, ramSel := 12#4, rtc := [] })
    s.storesOk = true ∧ s.cart.ok = true ∧ storage s 0x8000#16 = true ∧ storage s 0xBFFF#16 = true ∧
      storage s 0xC000#16 = true ∧ storage s 0xDFFF#16 = true ∧ storage s 0xFE9F#16 = true ∧ storage s 0xFF46#16 = true ∧
      storage s 0xFF7F#16 = true ∧ storage s 0xFFFF#16 = true ∧ storage s 0xE000#16 = false ∧ storage s 0x7FFF#16 = false := by
  decide

/-- `BusWriteFrame`, `MemoryFrame`: addresses a write does not touch, next to its own. -/
theorem witness_touched :
    touched base 0xC000#16 0xC001#16 = false ∧ touched base 0x2000#16 0x8000#16 = false ∧
      touched base 0xFF46#16 0xFEA0#16 = false ∧ touched base 0xFF4F#16 0xA000#16 = false ∧
      touched base 0xA000#16 0xA001#16 = false ∧ touched base 0xE000#16 0xE000#16 = false := by decide

/-- `MemoryFrame`: a storing instruction answers, and the byte below its stack slot is not touched. -/
theorem witness_memory_frame :
    (storedAt base .pushAf).all (fun x => !touched base x 0xDFED#16) = true ∧
      after (code 0xF5#8 0x00#8 0x00#8 base) (fun _ => true) = true := by decide

/-- `RegisterFrame`, `AdvanceAndCost`: a register instruction answers, and each of its clauses applies to some instruction. -/
theorem witness_register_frame :
    Reg8.c ∉ destRegs .incB ∧ writesSp .incB = false ∧ writesFlags .ldBC = false ∧ storedAt base .incB = [] ∧
      raises .incB = false ∧ transfers .incB = false := by decide

theorem witness_register_frame_answers : after (code 0x04#8 0x00#8 0x00#8 base) (fun _ => true) = true := by decide

/-- `EchoAndUnusableRegions`: both ends of both ranges. -/
theorem witness_echo_unusable :
    (0xE000 ≤ (0xE000#16).toNat ∧ (0xE000#16).toNat ≤ 0xFDFF) ∧ (0xE000 ≤ (0xFDFF#16).toNat ∧ (0xFDFF#16).toNat ≤ 0xFDFF) ∧
      (0xFEA0 ≤ (0xFEA0#16).toNat ∧ (0xFEA0#16).toNat ≤ 0xFEFF) ∧ (0xFEA0 ≤ (0xFEFF#16).toNat ∧ (0xFEFF#16).toNat ≤ 0xFEFF) := by
  decide

/-- `RomOnlyAndRamGate` and the banking statements: a state of each variant, its gate shut. -/
theorem witness_variants :
    base.cart = .romOnly ∧ base.cart.gate = false ∧
      (banked (.mbc1 { ramEnable := false, bankLo := 1#5, bankHi := 0#2, mode := false })).cart ≠ .romOnly ∧
      (banked (.mbc1 { ramEnable := false, bankLo := 1#5, bankHi := 0#2, mode := false })).cart.gate = false ∧
      (banked (.mbc3 { ramEnable := false, romBank := 1#7, ramSel := 0#4, rtc := [] })).cart =
        .mbc3 { ramEnable := false, romBank := 1#7, ramSel := 0#4, rtc := [] } ∧
      (banked (.mbc5 { ramEnable := true, romBank := 0#9, ramSel := 15#4 })).cart =
        .mbc5 { ramEnable := true, romBank := 0#9, ramSel := 15#4 } := by decide

/-- `PushPopSymmetry`: the two stack bytes in work RAM, at the top of high RAM, and across the end of cartridge RAM. -/
theorem witness_stack :
    base.storesOk = true ∧ plainRam base (base.sp - 2#16) = true ∧ plainRam base (base.sp - 1#16) = true ∧
      plainRam base (0xFFFF#16 - 2#16) = true ∧ plainRam base (0xFFFF#16 - 1#16) = true ∧
      plainRam (banked (.mbc5 { ramEnable := true, romBank := 0#9, ramSel := 3#4 })) 0xBFFF#16 = true ∧
      after (code 0xCD#8 0x00#8 0xD0#8 base) (fun _ => true) = true := by decide

/-- `AdditionInstructions`, `SubtractionInstructions`, `LogicInstructions`, `SecondaryRotates`, `SecondaryShifts`. -/
theorem witness_operations :
    (AluOp.adc = .add ∨ AluOp.adc = .adc) ∧ (AluOp.cp = .sub ∨ AluOp.cp = .sbc ∨ AluOp.cp = .cp) ∧
      (AluOp.or = .and ∨ AluOp.or = .xor ∨ AluOp.or = .or) ∧
      (RotOp.rr = .rlc ∨ RotOp.rr = .rrc ∨ RotOp.rr = .rl ∨ RotOp.rr = .rr) ∧
      (RotOp.srl = .sla ∨ RotOp.srl = .sra ∨ RotOp.srl = .swap ∨ RotOp.srl = .srl) := by decide

/-- `DecimalAdjustAfterArithmetic`: the largest and the smallest decimal operand. -/
theorem witness_bcd : isBcd 0x99#8 ∧ isBcd 0x00#8 ∧ ¬ isBcd 0x9A#8 := by unfold isBcd; decide

/-- `InterruptDispatch`: nothing pending; the last source pending, with IME clear and set. -/
theorem witness_interrupts :
    (∀ j, j < 5 → ¬ ((0x1F#5).getLsbD j = true ∧ (0xE0#8).getLsbD j = true)) ∧
      ((0x10#5).getLsbD 4 = true ∧ (0x10#8).getLsbD 4 = true) ∧
      (∀ j, j < 4 → ¬ ((0x10#5).getLsbD j = true ∧ (0xFF#8).getLsbD j = true)) ∧
      base.ime = false ∧ { base with ime := true }.ime = true := by decide

/-- `EnableLatch`: EI, DI, a raising and another instruction answer; a phantom step with nothing pending. -/
theorem witness_latch :
    after (code 0xFB#8 0x00#8 0x00#8 base) (fun _ => true) = true ∧ after (code 0xF3#8 0x00#8 0x00#8 base) (fun _ => true) = true ∧
      raises .illegalD3 = true ∧ raises .nop = false ∧ after (code 0xD3#8 0x00#8 0x00#8 base) (fun _ => true) = true ∧
      pending (envNotify (timerTick 4 { base with halted := true })) = 0#5 ∧
      stepped { base with halted := true } (fun _ => true) = true := by decide

/-- `TimerSixteenCyclePeriod`: the largest number of periods before the overflow, and TIMA at both ends. -/
theorem witness_timer :
    ({ base.timer with tac := 5#3 } : Timer).tac = 5#3 ∧ ({ base.timer with tac := 5#3 } : Timer).acc = 0 ∧
      255 < 256 - (0x00#8).toNat ∧ 0 < 256 - (0xFF#8).toNat ∧ base.timer.tac.getLsbD 2 = false := by decide

end Sys2Proof.Tests
end

/-! SUPPORT. What an instruction may write, as one relation between the state before its Operation and the state after it:
the bus writes in order, and the registers and latches left alone. -/

namespace Sys2Proof.Machine

/-! ## Sequences of bus writes -/

theorem SameBus.refl (s : State) : SameBus s s :=
  ⟨rfl, rfl, rfl, rfl, rfl, rfl, rfl, rfl, rfl, rfl, rfl, rfl, rfl, rfl⟩

theorem SameBus.symm {u s : State} (h : SameBus u s) : SameBus s u :=
  ⟨h.ifr.symm, h.ie.symm, h.timer.symm, h.dma.symm, h.vbk.symm, h.svbk.symm, h.io.symm, h.vram.symm, h.wram.symm,
    h.oam.symm, h.hram.symm, h.cram.symm, h.cart.symm, h.cfg.symm⟩

theorem SameBus.trans {t u s : State} (h : SameBus t u) (g : SameBus u s) : SameBus t s :=
  ⟨h.ifr.trans g.ifr, h.ie.trans g.ie, h.timer.trans g.timer, h.dma.trans g.dma, h.vbk.trans g.vbk,
    h.svbk.trans g.svbk, h.io.trans g.io, h.vram.trans g.vram, h.wram.trans g.wram, h.oam.trans g.oam,
    h.hram.trans g.hram, h.cram.trans g.cram, h.cart.trans g.cart, h.cfg.trans g.cfg⟩

/-- Behind the bus, `t` is `s` after one byte write at each of the addresses, in their order. -/
def BusWrites (s t : State) : List Word → Prop
  | [] => SameBus t s
  | a :: as => ∃ v, BusWrites (writeByte s a v) t as

/-- A sequence of writes looks at the parts behind the bus alone, before it and after it. -/
theorem BusWrites.congr {as : List Word} {s s' t t' : State} (h : BusWrites s t as) (hs : SameBus s' s)
    (ht : SameBus t' t) : BusWrites s' t' as := by
  induction as generalizing s s' with
  | nil => exact (ht.trans h).trans hs.symm
  | cons a as ih =>
    obtain ⟨v, hv⟩ := h
    exact ⟨v, ih hv (writeByte_sameBus hs a v)⟩

/-- One sequence of writes after another. -/
theorem BusWrites.append {as bs : List Word} {s u t : State} (h : BusWrites s u as) (g : BusWrites u t bs) :
    BusWrites s t (as ++ bs) := by
  induction as generalizing s with
  | nil => exact g.congr h.symm (.refl t)
  | cons a as ih =>
    obtain ⟨v, hv⟩ := h
    exact ⟨v, ih hv⟩

/-- What depends on the parts behind the bus alone and survives a bus write survives any sequence of them. -/
theorem BusWrites.keeps {P : State → Prop} (hsame : ∀ s t, SameBus t s → P s → P t)
    (hwrite : ∀ s a v, P s → P (writeByte s a v)) {as : List Word} {s t : State} (h : BusWrites s t as) (hs : P s) :
    P t := by
  induction as generalizing s with
  | nil => exact hsame s t h hs
  | cons a as ih =>
    obtain ⟨v, hv⟩ := h
    exact ih hv (hwrite s a v hs)

theorem BusWrites.cfg_eq {as : List Word} {s t : State} (h : BusWrites s t as) : t.cfg = s.cfg :=
  h.keeps (P := fun t => t.cfg = s.cfg) (fun _ _ hb hp => hb.cfg.trans hp)
    (fun t a v hp => (writeByte_cfg t a v).trans hp) rfl

theorem BusWrites.variant_eq {as : List Word} {s t : State} (h : BusWrites s t as) :
    t.cart.variant = s.cart.variant :=
  h.keeps (P := fun t => t.cart.variant = s.cart.variant) (fun _ _ hb hp => (congrArg _ hb.cart).trans hp)
    (fun t a v hp => (writeByte_variant t a v).trans hp) rfl

/-- Any sequence of bus writes keeps every store in form and the bank selectors legal. -/
theorem BusWrites.ok {as : List Word} {s t : State} (h : BusWrites s t as)
    (hs : s.storesOk = true ∧ s.cart.ok = true) : t.storesOk = true ∧ t.cart.ok = true :=
  h.keeps (P := fun t => t.storesOk = true ∧ t.cart.ok = true)
    (fun _ _ hb hp => ⟨(storesOk_sameBus hb).trans hp.1, (congrArg _ hb.cart).trans hp.2⟩)
    (fun _ a v hp => writeByte_ok a v hp.1 hp.2) hs

/-- Any sequence of bus writes keeps the timer's accumulator below its threshold. -/
theorem BusWrites.acc_lt {as : List Word} {s t : State} (h : BusWrites s t as)
    (hs : s.timer.acc < s.timer.period) : t.timer.acc < t.timer.period :=
  h.keeps (P := fun t => t.timer.acc < t.timer.period) (fun _ _ hb hp => by rw [hb.timer]; exact hp)
    (fun _ a v hp => writeByte_acc_lt a v hp) hs

/-! ## Footprints and frames -/

/-- What an Operation may write: general registers, `SP`, the flags, `PC`, the two halt latches, and the addresses it
stores to, in order. -/
structure Footprint where
  dest : List Reg8 := []
  sp : Bool := false
  flags : Bool := false
  jumps : Bool := false
  halts : Bool := false
  stores : List Word := []

/-- Both footprints, the stores of the second after those of the first. -/
def Footprint.append (p q : Footprint) : Footprint where
  dest := p.dest ++ q.dest
  sp := p.sp || q.sp
  flags := p.flags || q.flags
  jumps := p.jumps || q.jumps
  halts := p.halts || q.halts
  stores := p.stores ++ q.stores

/-- `t` is `s` but for what the footprint names; the enable latches are not looked at. -/
structure Frame (s t : State) (p : Footprint) : Prop where
  regs : ∀ r, r ∉ p.dest → t.regs.get r = s.regs.get r
  sp : p.sp = false → t.sp = s.sp
  f : p.flags = false → t.f = s.f
  pc : p.jumps = false → t.pc = s.pc
  latches : p.halts = false → t.halted = s.halted ∧ t.haltBug = s.haltBug
  fault : t.fault = s.fault
  env : t.env = s.env
  cycles : t.cycles = s.cycles
  bus : BusWrites s t p.stores

/-- Frames compose. -/
theorem Frame.append {s u t : State} {p q : Footprint} (h : Frame s u p) (g : Frame u t q) :
    Frame s t (p.append q) where
  regs r hr := by
    obtain ⟨hp, hq⟩ := not_or.1 (mt List.mem_append.2 hr)
    exact (g.regs r hq).trans (h.regs r hp)
  sp hw := by
    obtain ⟨hp, hq⟩ := Bool.or_eq_false_iff.1 hw
    exact (g.sp hq).trans (h.sp hp)
  f hw := by
    obtain ⟨hp, hq⟩ := Bool.or_eq_false_iff.1 hw
    exact (g.f hq).trans (h.f hp)
  pc hw := by
    obtain ⟨hp, hq⟩ := Bool.or_eq_false_iff.1 hw
    exact (g.pc hq).trans (h.pc hp)
  latches hw := by
    obtain ⟨hp, hq⟩ := Bool.or_eq_false_iff.1 hw
    exact ⟨(g.latches hq).1.trans (h.latches hp).1, (g.latches hq).2.trans (h.latches hp).2⟩
  fault := g.fault.trans h.fault
  env := g.env.trans h.env
  cycles := g.cycles.trans h.cycles
  bus := h.bus.append g.bus

/-- The frame of an update of registers, flags, `PC`, `SP` and enable latches. -/
theorem frame_update {s : State} {g : Regs} {f : Flags} {sp pc : Word} {ime pend : Bool} {p : Footprint}
    (hregs : ∀ r, r ∉ p.dest → g.get r = s.regs.get r := by intros; rfl)
    (hsp : p.sp = false → sp = s.sp := by simp) (hf : p.flags = false → f = s.f := by simp)
    (hpc : p.jumps = false → pc = s.pc := by simp) (hstores : p.stores = [] := by rfl) :
    Frame s { s with regs := g, f := f, sp := sp, pc := pc, ime := ime, imePending := pend } p where
  regs := hregs
  sp := hsp
  f := hf
  pc := hpc
  latches _ := ⟨rfl, rfl⟩
  fault := rfl
  env := rfl
  cycles := rfl
  bus := by rw [hstores]; exact ⟨rfl, rfl, rfl, rfl, rfl, rfl, rfl, rfl, rfl, rfl, rfl, rfl, rfl, rfl⟩

/-- Doing nothing is within any footprint without stores. -/
theorem frame_refl (s : State) {p : Footprint} (hstores : p.stores = [] := by rfl) : Frame s s p :=
  frame_update (hstores := hstores)

theorem frame_writeByte (s : State) (a : Word) (v : Byte) : Frame s (writeByte s a v) { stores := [a] } where
  regs _ _ := by rw [writeByte_regs]
  sp _ := writeByte_sp s a v
  f _ := writeByte_f s a v
  pc _ := writeByte_pc s a v
  latches _ := ⟨writeByte_halted s a v, writeByte_haltBug s a v⟩
  fault := writeByte_fault s a v
  env := writeByte_env s a v
  cycles := writeByte_cycles s a v
  bus := ⟨v, .refl _⟩

theorem frame_writeWord (s : State) (a v : Word) : Frame s (writeWord s a v) { stores := [a, a + 1#16] } :=
  (frame_writeByte s a (lo v)).append (frame_writeByte _ (a + 1#16) (hi v))

theorem frame_push16 (s : State) (v : Word) :
    Frame s (push16 v s) { sp := true, stores := [s.sp - 2#16, s.sp - 1#16] } := by
  have ha : s.sp - 2#16 + 1#16 = s.sp - 1#16 := by bv_omega
  have hmove : Frame s { s with sp := s.sp - 2#16 } { sp := true } := frame_update
  have h := hmove.append (frame_writeWord _ (s.sp - 2#16) v)
  rw [ha] at h
  exact h

/-! ## The register file under a write -/

/-- A register reads as what was written to it, and every other one as before (40_load8.md R170). -/
theorem Regs.get_set (g : Regs) (rd r : Reg8) (v : Byte) : (g.set rd v).get r = if r = rd then v else g.get r := by
  cases rd <;> cases r <;> rfl

theorem Regs.get_set_ne (g : Regs) {rd r : Reg8} (v : Byte) (h : r ≠ rd) : (g.set rd v).get r = g.get r := by
  rw [Regs.get_set, if_neg h]

end Sys2Proof.Machine

/-! SUPPORT. The footprint of each Operation of the instruction set, and of each instruction. -/

namespace Sys2Proof.Machine

/-! ## Operations on registers, pairs and flags -/

theorem frame_setR8 (rd : Reg8) (v : Byte) (u : State) : Frame u (setR8 rd v u) { dest := [rd] } :=
  frame_update (hregs := fun _ hr => Regs.get_set_ne _ v (List.ne_of_not_mem_cons hr))

theorem frame_setR8F (rd : Reg8) (v : Byte × Flags) (u : State) :
    Frame u (setR8F rd v u) { dest := [rd], flags := true } :=
  frame_update (hregs := fun _ hr => Regs.get_set_ne _ v.1 (List.ne_of_not_mem_cons hr))

theorem frame_setAF8 (v : Byte × Flags) (u : State) : Frame u (setAF8 v u) { dest := [.a], flags := true } :=
  frame_setR8F .a v u

theorem frame_setFlags (f : Flags) (u : State) : Frame u { u with f := f } { flags := true } :=
  frame_update

theorem frame_setSp (v : Word) (u : State) : Frame u { u with sp := v } { sp := true } :=
  frame_update

/-- CP writes A with what it holds. -/
theorem frame_cp (b : Byte) (u : State) : Frame u (aluV .cp b u) { flags := true } :=
  frame_setFlags (sub8 u.regs.a b false).2 u

theorem frame_setBc (v : Word) (u : State) : Frame u (setBc v u) { dest := [.b, .c] } :=
  (frame_setR8 .b (hi v) u).append (frame_setR8 .c (lo v) _)

theorem frame_setDe (v : Word) (u : State) : Frame u (setDe v u) { dest := [.d, .e] } :=
  (frame_setR8 .d (hi v) u).append (frame_setR8 .e (lo v) _)

theorem frame_setHl (v : Word) (u : State) : Frame u (setHl v u) { dest := [.h, .l] } :=
  (frame_setR8 .h (hi v) u).append (frame_setR8 .l (lo v) _)

/-- A sum for HL with its flags: ADD HL,r16 and LD HL,SP+e8. -/
theorem frame_setHlF (v : Word) (f : Flags) (u : State) :
    Frame u { setHl v u with f := f } { dest := [.h, .l], flags := true } :=
  (frame_setHl v u).append (frame_setFlags f _)

theorem frame_addSp (b : Byte) (u : State) : Frame u (addSp b u) { sp := true, flags := true } :=
  frame_update

theorem frame_loadAStep (k : Word) (u : State) : Frame u (loadAStep k u) { dest := [.a, .h, .l] } :=
  (frame_setR8 .a _ u).append (frame_setHl (hl u + k) _)

/-! ## Operations on memory and the stack -/

theorem frame_setMemF (a : Word) (v : Byte × Flags) (u : State) :
    Frame u (setMemF a v u) { flags := true, stores := [a] } :=
  (frame_writeByte u a v.1).append (frame_setFlags v.2 _)

theorem frame_storeAStep (k : Word) (u : State) :
    Frame u (storeAStep k u) { dest := [.h, .l], stores := [hl u] } :=
  (frame_writeByte u (hl u) u.regs.a).append (frame_setHl (hl u + k) _)

/-- POP of a pair: `SP` moves, then the pair is written. -/
theorem frame_popPair {dest : List Reg8} {flags : Bool} {body : State → State}
    (h : ∀ v, Frame v (body v) { dest := dest, flags := flags }) (u : State) :
    Frame u (body (popSp u)) { dest := dest, sp := true, flags := flags } :=
  (frame_setSp (u.sp + 2#16) u).append (h (popSp u))

theorem frame_setAf (v : Word) (u : State) : Frame u (setAf v u) { dest := [.a], flags := true } :=
  frame_setR8F .a (hi v, Flags.ofByte (lo v)) u

/-! ## Control transfers and CPU control -/

theorem frame_jump (a : Word) (u : State) : Frame u (jump a u) { jumps := true } :=
  frame_update

theorem frame_call (a : Word) (u : State) :
    Frame u (call a u) { sp := true, jumps := true, stores := [u.sp - 2#16, u.sp - 1#16] } :=
  (frame_push16 u u.pc).append (frame_jump a _)

theorem frame_returnPc (u : State) : Frame u (returnPc u) { sp := true, jumps := true } :=
  frame_update

theorem frame_returnEnable (u : State) : Frame u (returnEnable u) { sp := true, jumps := true } :=
  frame_update

theorem frame_jumpIf (cc : Cond) (a : Word) (u : State) : Frame u (jumpIf cc a u) { jumps := true } := by
  unfold jumpIf
  split
  · exact frame_jump a u
  · exact frame_refl u

theorem frame_jumpRelIf (cc : Cond) (e : Byte) (u : State) : Frame u (jumpRelIf cc e u) { jumps := true } :=
  frame_jumpIf cc (u.pc + sext16 e) u

theorem frame_returnIf (cc : Cond) (u : State) : Frame u (returnIf cc u) { sp := true, jumps := true } := by
  unfold returnIf
  split
  · exact frame_returnPc u
  · exact frame_refl u

theorem frame_callIf (cc : Cond) (a : Word) (u : State) :
    Frame u (callIf cc a u)
      { sp := true, jumps := true, stores := if cond cc u.f then [u.sp - 2#16, u.sp - 1#16] else [] } := by
  unfold callIf
  split
  · exact frame_call a u
  · exact frame_refl u

theorem frame_setHaltLatches (halted haltBug : Bool) (u : State) :
    Frame u { u with halted := halted, haltBug := haltBug } { halts := true } where
  regs _ _ := rfl
  sp _ := rfl
  f _ := rfl
  pc _ := rfl
  latches := nofun
  fault := rfl
  env := rfl
  cycles := rfl
  bus := ⟨rfl, rfl, rfl, rfl, rfl, rfl, rfl, rfl, rfl, rfl, rfl, rfl, rfl, rfl⟩

theorem frame_halt (promote : Bool) (u : State) : Frame u (halt promote u) { halts := true } := by
  unfold halt
  split
  · exact frame_setHaltLatches u.halted true u
  · exact frame_setHaltLatches true u.haltBug u

theorem frame_enableLater (u : State) : Frame u (enableLater u) {} :=
  frame_update

theorem frame_disable (u : State) : Frame u (disable u) {} :=
  frame_update

/-! ## Instructions -/

/-- HALT is the one instruction that writes the halt latches (46_cpu_control.md R321, R323). -/
def halts : Instr → Bool
  | .halt => true
  | _ => false

theorem halts_eq_false {i : Instr} (h : i ≠ .halt) : halts i = false := by
  unfold halts
  split
  · exact absurd rfl h
  · rfl

/-- What instruction `i` may write when it runs in state `s`, from the tables of the frames. -/
def footprint (s : State) (i : Instr) : Footprint where
  dest := destRegs i
  sp := writesSp i
  flags := writesFlags i
  jumps := transfers i
  halts := halts i
  stores := storedAt s i

/-- What a CPU step may report (30_encoding.md R155). -/
abbrev IsCost (k : Nat) : Prop := k % 4 = 0 ∧ 4 ≤ k ∧ k ≤ 24

theorem isCost_branchCost {k m : Nat} (cc : Cond) (s : State) (hk : IsCost k) (hm : IsCost m) :
    IsCost (branchCost cc s k m) := by
  unfold branchCost
  split
  · exact hk
  · exact hm

/-- `i` raises in `s`: the fault is recorded at PC and every other item keeps its value (60_exceptions.md R340). -/
def Raised (i : Instr) (s t : State) : Prop :=
  raises i = true ∧ ∃ op, t = { s with fault := some (op, s.pc) }

/-- `i` completes from `s` in `t`: past its bytes an Operation within the footprint, then the promotion and the report of
a cost (30_encoding.md R140). -/
def Completes (i : Instr) (s t : State) : Prop :=
  raises i = false ∧ ∃ promote cost u,
    t = finishStep promote cost u ∧ IsCost cost ∧ Frame (beginStep i.length s) u (footprint s i)

/-- `i` answers a next state from `s`, raising or completing. -/
def Answers (i : Instr) (s : State) : Prop := ∃ t, exec i s = .next t ∧ (Raised i s t ∨ Completes i s t)

theorem answers_raise {i : Instr} {s : State} {op : Byte} (h : exec i s = raiseUnimplemented op s)
    (hr : raises i = true) : Answers i s :=
  ⟨_, h, .inl ⟨hr, op, rfl⟩⟩

theorem answers_retire {i : Instr} {s : State} {k : Nat} {body : State → State}
    (h : exec i s = retire i.length k body s)
    (hf : Frame (beginStep i.length s) (body (beginStep i.length s)) (footprint s i))
    (hk : IsCost k := by decide) (hr : raises i = false := by rfl) : Answers i s :=
  ⟨_, h, .inr ⟨hr, _, k, _, rfl, hk, hf⟩⟩

/-- DI completes without the promotion it sampled (46_cpu_control.md R325). -/
theorem answers_di (s : State) : Answers .di s :=
  ⟨_, rfl, .inr ⟨rfl, false, 4, _, rfl, by decide, frame_disable _⟩⟩

/-- Field value 6 selects no register but the byte at HL (30_encoding.md R144). -/
theorem reg8OfField_eq_none (x : BitVec 3) : reg8OfField x = none ↔ x.toNat = 6 := by
  revert x; decide

theorem footprint_prefixCb (s : State) (op2 : Byte) :
    footprint s (.prefixCb op2) =
      { dest := if (op2.extractLsb' 6 2).toNat = 1 then [] else (reg8OfField (op2.extractLsb' 0 3)).toList
        flags := decide ((op2.extractLsb' 6 2).toNat ≤ 1)
        stores := if (op2.extractLsb' 0 3).toNat = 6 ∧ (op2.extractLsb' 6 2).toNat ≠ 1 then [hl s] else [] } :=
  rfl

/-- The handler of byte 0xCB dispatches on two fields of the second byte (46_cpu_control.md R327). -/
theorem answers_prefixCb (op2 : Byte) (s : State) : Answers (.prefixCb op2) s := by
  have h : exec (.prefixCb op2) s = runSecondary op2 s := rfl
  have hn := reg8OfField_eq_none (op2.extractLsb' 0 3)
  have hp := footprint_prefixCb s op2
  unfold runSecondary at h
  generalize (op2.extractLsb' 6 2).toNat = x at h hp
  generalize (op2.extractLsb' 0 3).toNat = y at hn hp
  generalize reg8OfField (op2.extractLsb' 0 3) = t at h hn hp
  cases t with
  | some t =>
    have hy : y ≠ 6 := fun hy => nomatch hn.2 hy
    simp only [hy, false_and, if_false, Option.toList_some] at hp
    match x with
    | 0 => exact answers_retire h (hp ▸ frame_setR8F _ _ _)
    | 1 => exact answers_retire h (hp ▸ frame_setFlags _ _)
    | 2 => exact answers_retire h (hp ▸ frame_setR8 _ _ _)
    | x + 3 => exact answers_retire h (hp ▸ frame_setR8 _ _ _)
  | none =>
    have hy : y = 6 := hn.1 rfl
    simp only [hy, true_and, Option.toList_none, ite_self] at hp
    match x with
    | 0 => exact answers_retire h (hp ▸ frame_setMemF _ _ _)
    | 1 => exact answers_retire h (hp ▸ frame_setFlags _ _)
    | 2 => exact answers_retire h (hp ▸ frame_writeByte _ _ _)
    | x + 3 => exact answers_retire h (hp ▸ frame_writeByte _ _ _)

/-- Every instruction answers: one arm for each shape of Operation, with the instructions that have it. -/
theorem exec_answers (i : Instr) (s : State) : Answers i s := by
  cases i with
  | nop => exact answers_retire rfl (frame_refl _)
  | ldBcD16 | incBc | decBc => exact answers_retire rfl (frame_setBc _ _)
  | ldIndBcA | ldIndDeA | ldIndHlD8 | ldIndHlB | ldIndHlC | ldIndHlD | ldIndHlE | ldIndHlH | ldIndHlL | ldIndHlA
    | ldhIndA8A | ldhIndCA | ldIndA16A | res0IndHl | res1IndHl | res2IndHl | res3IndHl | res4IndHl | res5IndHl
    | res6IndHl | res7IndHl | set0IndHl | set1IndHl | set2IndHl | set3IndHl | set4IndHl | set5IndHl | set6IndHl
    | set7IndHl =>
    exact answers_retire rfl (frame_writeByte _ _ _)
  | incB | decB | incC | decC | incD | decD | incE | decE | incH | decH | incL | decL | incA | decA | rlcB | rlcC
    | rlcD | rlcE | rlcH | rlcL | rlcA | rrcB | rrcC | rrcD | rrcE | rrcH | rrcL | rrcA | rlB | rlC | rlD | rlE
    | rlH | rlL | rlA | rrB | rrC | rrD | rrE | rrH | rrL | rrA | slaB | slaC | slaD | slaE | slaH | slaL | slaA
    | sraB | sraC | sraD | sraE | sraH | sraL | sraA | swapB | swapC | swapD | swapE | swapH | swapL | swapA | srlB
    | srlC | srlD | srlE | srlH | srlL | srlA =>
    exact answers_retire rfl (frame_setR8F _ _ _)
  | ldBD8 | ldAIndBc | ldCD8 | ldDD8 | ldAIndDe | ldED8 | ldHD8 | ldLD8 | ldAD8 | ldBB | ldBC | ldBD | ldBE | ldBH
    | ldBL | ldBIndHl | ldBA | ldCB | ldCC | ldCD | ldCE | ldCH | ldCL | ldCIndHl | ldCA | ldDB | ldDC | ldDD | ldDE
    | ldDH | ldDL | ldDIndHl | ldDA | ldEB | ldEC | ldED | ldEE | ldEH | ldEL | ldEIndHl | ldEA | ldHB | ldHC | ldHD
    | ldHE | ldHH | ldHL | ldHIndHl | ldHA | ldLB | ldLC | ldLD | ldLE | ldLH | ldLL | ldLIndHl | ldLA | ldAB | ldAC
    | ldAD | ldAE | ldAH | ldAL | ldAIndHl | ldAA | ldhAIndA8 | ldhAIndC | ldAIndA16 | res0B | res0C | res0D | res0E
    | res0H | res0L | res0A | res1B | res1C | res1D | res1E | res1H | res1L | res1A | res2B | res2C | res2D | res2E
    | res2H | res2L | res2A | res3B | res3C | res3D | res3E | res3H | res3L | res3A | res4B | res4C | res4D | res4E
    | res4H | res4L | res4A | res5B | res5C | res5D | res5E | res5H | res5L | res5A | res6B | res6C | res6D | res6E
    | res6H | res6L | res6A | res7B | res7C | res7D | res7E | res7H | res7L | res7A | set0B | set0C | set0D | set0E
    | set0H | set0L | set0A | set1B | set1C | set1D | set1E | set1H | set1L | set1A | set2B | set2C | set2D | set2E
    | set2H | set2L | set2A | set3B | set3C | set3D | set3E | set3H | set3L | set3A | set4B | set4C | set4D | set4E
    | set4H | set4L | set4A | set5B | set5C | set5D | set5E | set5H | set5L | set5A | set6B | set6C | set6D | set6E
    | set6H | set6L | set6A | set7B | set7C | set7D | set7E | set7H | set7L | set7A =>
    exact answers_retire rfl (frame_setR8 _ _ _)
  | rlca | rrca | rla | rra | daa | cpl | addAB | addAC | addAD | addAE | addAH | addAL | addAIndHl | addAA
    | adcAB | adcAC | adcAD | adcAE | adcAH | adcAL | adcAIndHl | adcAA | subAB | subAC | subAD | subAE | subAH
    | subAL | subAIndHl | subAA | sbcAB | sbcAC | sbcAD | sbcAE | sbcAH | sbcAL | sbcAIndHl | sbcAA | andAB | andAC
    | andAD | andAE | andAH | andAL | andAIndHl | andAA | xorAB | xorAC | xorAD | xorAE | xorAH | xorAL | xorAIndHl
    | xorAA | orAB | orAC | orAD | orAE | orAH | orAL | orAIndHl | orAA | addAD8 | adcAD8 | subAD8 | sbcAD8 | andAD8
    | xorAD8 | orAD8 =>
    exact answers_retire rfl (frame_setAF8 _ _)
  | ldIndA16Sp => exact answers_retire rfl (frame_writeWord _ _ _)
  | addHlBc | addHlDe | addHlHl | addHlSp | ldHlSpE8 => exact answers_retire rfl (frame_setHlF _ _ _)
  | stop | illegalD3 | illegalDB | illegalDD | illegalE3 | illegalE4 | illegalEB | illegalEC | illegalED
    | illegalF4 | illegalFC | illegalFD =>
    exact answers_raise rfl rfl
  | ldDeD16 | incDe | decDe => exact answers_retire rfl (frame_setDe _ _)
  | jrE8 | jpA16 | jpHl => exact answers_retire rfl (frame_jump _ _)
  | jrNzE8 | jrZE8 | jrNcE8 | jrCE8 =>
    exact answers_retire rfl (frame_jumpRelIf _ _ _) (isCost_branchCost _ s (by decide) (by decide))
  | ldHlD16 | incHl | decHl => exact answers_retire rfl (frame_setHl _ _)
  | ldIndHlIncA | ldIndHlDecA => exact answers_retire rfl (frame_storeAStep _ _)
  | ldAIndHlInc | ldAIndHlDec => exact answers_retire rfl (frame_loadAStep _ _)
  | ldSpD16 | incSp | decSp | ldSpHl => exact answers_retire rfl (frame_setSp _ _)
  | incIndHl | decIndHl | rlcIndHl | rrcIndHl | rlIndHl | rrIndHl | slaIndHl | sraIndHl | swapIndHl | srlIndHl =>
    exact answers_retire rfl (frame_setMemF _ _ _)
  | scf | ccf | bit0B | bit0C | bit0D | bit0E | bit0H | bit0L | bit0IndHl | bit0A | bit1B | bit1C | bit1D | bit1E
    | bit1H | bit1L | bit1IndHl | bit1A | bit2B | bit2C | bit2D | bit2E | bit2H | bit2L | bit2IndHl | bit2A | bit3B
    | bit3C | bit3D | bit3E | bit3H | bit3L | bit3IndHl | bit3A | bit4B | bit4C | bit4D | bit4E | bit4H | bit4L
    | bit4IndHl | bit4A | bit5B | bit5C | bit5D | bit5E | bit5H | bit5L | bit5IndHl | bit5A | bit6B | bit6C | bit6D
    | bit6E | bit6H | bit6L | bit6IndHl | bit6A | bit7B | bit7C | bit7D | bit7E | bit7H | bit7L | bit7IndHl | bit7A =>
    exact answers_retire rfl (frame_setFlags _ _)
  | halt => exact answers_retire rfl (frame_halt _ _)
  | cpAB | cpAC | cpAD | cpAE | cpAH | cpAL | cpAIndHl | cpAA | cpAD8 => exact answers_retire rfl (frame_cp _ _)
  | retNz | retZ | retNc | retC =>
    exact answers_retire rfl (frame_returnIf _ _) (isCost_branchCost _ s (by decide) (by decide))
  | popBc => exact answers_retire rfl (frame_popPair (fun v => frame_setBc _ v) _)
  | jpNzA16 | jpZA16 | jpNcA16 | jpCA16 =>
    exact answers_retire rfl (frame_jumpIf _ _ _) (isCost_branchCost _ s (by decide) (by decide))
  | callNzA16 | callZA16 | callNcA16 | callCA16 =>
    exact answers_retire rfl (frame_callIf _ _ _) (isCost_branchCost _ s (by decide) (by decide))
  | pushBc | pushDe | pushHl | pushAf => exact answers_retire rfl (frame_push16 _ _)
  | rst00 | callA16 | rst08 | rst10 | rst18 | rst20 | rst28 | rst30 | rst38 =>
    exact answers_retire rfl (frame_call _ _)
  | ret => exact answers_retire rfl (frame_returnPc _)
  | prefixCb => exact answers_prefixCb _ s
  | popDe => exact answers_retire rfl (frame_popPair (fun v => frame_setDe _ v) _)
  | reti => exact answers_retire rfl (frame_returnEnable _)
  | popHl => exact answers_retire rfl (frame_popPair (fun v => frame_setHl _ v) _)
  | addSpE8 => exact answers_retire rfl (frame_addSp _ _)
  | popAf => exact answers_retire rfl (frame_popPair (fun v => frame_setAf _ v) _)
  | di => exact answers_di s
  | ei => exact answers_retire rfl (frame_enableLater _)

end Sys2Proof.Machine

/-! SUPPORT. What a CPU step and a machine step can do, and the invariant across them. -/

namespace Sys2Proof.Machine

/-- Everything `exec` can do. -/
theorem exec_cases {i : Instr} {s t : State} (h : exec i s = .next t) : Raised i s t ∨ Completes i s t := by
  obtain ⟨u, hu, hc⟩ := exec_answers i s
  cases hu.symm.trans h
  exact hc

/-- The sequence of bus writes of an instruction that completes. -/
theorem Completes.bus {i : Instr} {s t : State} (h : Completes i s t) : BusWrites s t (storedAt s i) := by
  obtain ⟨-, promote, cost, u, rfl, -, hf⟩ := h
  exact hf.bus.congr (sameBus_beginStep i.length s).symm (sameBus_finishStep promote cost u)

theorem Completes.fault_eq {i : Instr} {s t : State} (h : Completes i s t) : t.fault = s.fault := by
  obtain ⟨-, promote, cost, u, rfl, -, hf⟩ := h
  exact hf.fault

theorem Raised.fault_isSome {i : Instr} {s t : State} (h : Raised i s t) : t.fault.isSome = true := by
  obtain ⟨-, op, rfl⟩ := h
  rfl

/-- HALT apart, a completed instruction leaves `halted` alone and the HALT-bug latch clear. -/
theorem Completes.latches_eq {i : Instr} {s t : State} (h : Completes i s t) (hi : i ≠ .halt) :
    t.halted = s.halted ∧ t.haltBug = false := by
  obtain ⟨-, promote, cost, u, rfl, -, hf⟩ := h
  exact hf.latches (halts_eq_false hi)

/-- The two ways HALT ends: the HALT bug with interrupts disabled, or the halt (46_cpu_control.md R321, R323). -/
theorem exec_halt_cases {s t : State} (h : exec .halt s = .next t) :
    (t = { retired 1 4 s with haltBug := true } ∧ s.cfg.haltBug = true ∧ s.ime = false ∧ s.imePending = false) ∨
      t = { retired 1 4 s with halted := true } := by
  have ht : finishStep s.imePending 4 (halt s.imePending (beginStep 1 s)) = t := Host.Outcome.next.inj h
  subst ht
  unfold halt
  split
  · next hc =>
    simp only [Bool.and_eq_true, Bool.not_eq_true'] at hc
    obtain ⟨⟨⟨hbug, hime⟩, hpend⟩, -⟩ := hc
    exact .inl ⟨rfl, hbug, hime, hpend⟩
  · exact .inr rfl

/-! ## The machine step -/

theorem step_halted {s : State} (hf : s.fault = none) (hh : s.halted = true) :
    step s = .next (afterCpuStep (phantomStep s)) := by
  simp [step, hf, hh]

theorem step_running {s u : State} (hf : s.fault = none) (hh : s.halted = false)
    (hu : exec (fetchInstr s) s = .next u) :
    step s = .next (if u.fault.isSome then u else afterCpuStep u) := by
  simp [step, hf, hh, hu]

theorem step_faulted {s : State} {q : Byte × Word} (hf : s.fault = some q) :
    step s = .fault (.unimplementedOpcode q.1 q.2) := by
  simp [step, hf]

/-- A step that answers is a phantom step of a halted CPU, a raise, or an instruction that completes; tick, notification
and interrupt step follow the first and the last (60_exceptions.md R380, R381). -/
theorem step_cases {s t : State} (h : step s = .next t) :
    s.fault = none ∧
      (t = afterCpuStep (phantomStep s) ∨ Raised (fetchInstr s) s t ∨
        ∃ u, s.halted = false ∧ exec (fetchInstr s) s = .next u ∧ Completes (fetchInstr s) s u ∧ t = afterCpuStep u) := by
  cases hf : s.fault with
  | some q => cases (step_faulted hf).symm.trans h
  | none =>
    refine ⟨rfl, ?_⟩
    cases hh : s.halted with
    | true =>
      cases (step_halted hf hh).symm.trans h
      exact .inl rfl
    | false =>
      obtain ⟨u, hu, hc⟩ := exec_answers (fetchInstr s) s
      cases (step_running hf hh hu).symm.trans h
      rcases hc with hr | hc
      · rw [hr.fault_isSome]
        exact .inr (.inl hr)
      · rw [hc.fault_eq, hf]
        exact .inr (.inr ⟨u, rfl, hu, hc, rfl⟩)

/-! ## Configuration and variant -/

theorem dispatchInterrupt_variant (i : Nat) (s : State) :
    (dispatchInterrupt i s).cart.variant = s.cart.variant :=
  (frame_push16 { s with ifr := s.ifr &&& ~~~(1#5 <<< i), ime := false } s.pc).bus.variant_eq

theorem interruptStep_config (s : State) :
    (interruptStep s).1.cfg = s.cfg ∧ (interruptStep s).1.cart.variant = s.cart.variant := by
  rcases interruptStep_cases s with ⟨-, h⟩ | ⟨-, -, h⟩ | ⟨-, -, h⟩ <;> rw [h]
  · exact ⟨rfl, rfl⟩
  · exact ⟨rfl, rfl⟩
  · exact ⟨dispatchInterrupt_cfg _ _, dispatchInterrupt_variant _ _⟩

theorem afterCpuStep_config (s : State) :
    (afterCpuStep s).cfg = s.cfg ∧ (afterCpuStep s).cart.variant = s.cart.variant := by
  simpa [afterCpuStep] using interruptStep_config (envNotify (timerTick s.cost s))

/-! ## The invariant -/

theorem timerTick_inv (k : Nat) {s : State} (h : s.Inv) : (timerTick k s).Inv := by
  obtain ⟨hstores, hcart, hacc, hhalted, hbug, hfault⟩ := h
  refine ⟨?_, ?_, timerTick_acc_lt k hacc, ?_, ?_, ?_⟩
  · simpa [State.storesOk] using hstores
  all_goals simpa

theorem envNotify_inv {s : State} (h : s.Inv) : (envNotify s).Inv := by
  obtain ⟨hstores, hcart, hacc, hhalted, hbug, hfault⟩ := h
  refine ⟨envNotify_storesOk hstores, ?_, ?_, ?_, ?_, ?_⟩
  all_goals simpa

/-- Ending a halt keeps the invariant. -/
theorem wake_inv {s : State} (h : s.Inv) : ({ s with halted := false } : State).Inv := by
  obtain ⟨hstores, hcart, hacc, -, hbug, hfault⟩ := h
  exact ⟨hstores, hcart, hacc, nofun, hbug, hfault⟩

/-- A dispatch keeps the invariant of a machine without a fault that is not halted. -/
theorem dispatchInterrupt_inv (i : Nat) {s : State} (h : s.Inv) (hh : s.halted = false) (hf : s.fault = none) :
    (dispatchInterrupt i s).Inv := by
  obtain ⟨hstores, hcart, hacc, -, hbug, -⟩ := h
  obtain ⟨hstores', hcart'⟩ := dispatchInterrupt_ok i hstores hcart
  have hacc' := (frame_push16 { s with ifr := s.ifr &&& ~~~(1#5 <<< i), ime := false } s.pc).bus.acc_lt hacc
  exact ⟨hstores', hcart', hacc', by simp [hh], by simpa using fun hb => (hbug hb).2, by simp [hf]⟩

theorem interruptStep_inv {s : State} (h : s.Inv) (hf : s.fault = none) : (interruptStep s).1.Inv := by
  rcases interruptStep_cases s with ⟨-, hr⟩ | ⟨-, -, hr⟩ | ⟨-, -, hr⟩ <;> rw [hr]
  · exact h
  · exact wake_inv h
  · exact dispatchInterrupt_inv _ (wake_inv h) rfl hf

/-- Tick, notification and interrupt step keep the invariant of a machine without a fault. -/
theorem afterCpuStep_inv {s : State} (h : s.Inv) (hf : s.fault = none) : (afterCpuStep s).Inv :=
  interruptStep_inv (envNotify_inv (timerTick_inv s.cost h)) (by simp [hf])

/-- A raise keeps the invariant: the pair names the PC, which does not move. -/
theorem Raised.inv {i : Instr} {s t : State} (hr : Raised i s t) (h : s.Inv) : t.Inv := by
  obtain ⟨-, op, rfl⟩ := hr
  obtain ⟨hstores, hcart, hacc, hhalted, hbug, -⟩ := h
  exact ⟨hstores, hcart, hacc, hhalted, hbug, by simp⟩

/-- An instruction that completes leaves the halt latches consistent, in a machine that is not halted. -/
theorem Completes.latches_ok {i : Instr} {s t : State} (hc : Completes i s t) (he : exec i s = .next t)
    (hh : s.halted = false) :
    (t.halted = true → t.imePending = false ∧ t.haltBug = false) ∧
      (t.haltBug = true → t.ime = false ∧ t.imePending = false ∧ t.cfg.haltBug = true) := by
  by_cases hi : i = .halt
  · subst hi
    rcases exec_halt_cases he with ⟨rfl, hcfg, hime, hpend⟩ | rfl
    · simp [hh, hcfg, hime, hpend]
    · simp
  · obtain ⟨hhalted, hbug⟩ := hc.latches_eq hi
    simp [hhalted, hbug, hh]

/-- An instruction that completes keeps the invariant of a running machine. -/
theorem Completes.inv {i : Instr} {s t : State} (hc : Completes i s t) (he : exec i s = .next t) (h : s.Inv)
    (hh : s.halted = false) (hf : s.fault = none) : t.Inv := by
  obtain ⟨hstores, hcart, hacc, -⟩ := h
  obtain ⟨hstores', hcart'⟩ := hc.bus.ok ⟨hstores, hcart⟩
  obtain ⟨hhalted, hbug⟩ := hc.latches_ok he hh
  exact ⟨hstores', hcart', hc.bus.acc_lt hacc, hhalted, hbug, by simp [hc.fault_eq, hf]⟩

end Sys2Proof.Machine

/-! SUPPORT. The reset state: its bank registers, and what the windows show under them. -/

namespace Sys2Proof.Machine

theorem regionOf_rom {a : Word} (h : a.toNat < 0x8000) : regionOf a = .rom := by
  simp only [regionOf, h, if_true]

theorem regionOf_cartRam {a : Word} (h : 0xA000 ≤ a.toNat) (h' : a.toNat < 0xC000) : regionOf a = .cartRam := by
  rw [regionOf, if_neg (by omega), if_neg (by omega), if_pos h']

theorem regionOf_wramBank {a : Word} (h : 0xD000 ≤ a.toNat) (h' : a.toNat < 0xE000) : regionOf a = .wramBank := by
  rw [regionOf, if_neg (by omega), if_neg (by omega), if_neg (by omega), if_neg (by omega), if_pos h']

theorem readByte_rom {s : State} {a : Word} (h : a.toNat < 0x8000) :
    readByte s a = Memory.read s.cfg.rom (romOffset s.cart s.cfg a) := by
  simp only [readByte, regionOf_rom h, cartReadRom]

/-- ROM bank 0 at 0x0000, for every variant at reset. -/
theorem romOffset_init_low (p : Params) {a : Word} (h : a.toNat < 0x4000) :
    romOffset (State.init p).cart p.cfg a = 0 * 0x4000 + a.toNat := by
  cases hv : p.variant <;> simp [State.init, Cart.init, romOffset, hv, h]

/-- ROM bank 1 at 0x4000, for every variant at reset. -/
theorem romOffset_init_high (p : Params) (hn : 2 ≤ p.cfg.nbanks) {a : Word} (h : 0x4000 ≤ a.toNat) :
    romOffset (State.init p).cart p.cfg a = 1 * 0x4000 + (a.toNat - 0x4000) := by
  have hmod : 1 % p.cfg.nbanks = 1 := Nat.mod_eq_of_lt hn
  have hlow : ¬ a.toNat < 0x4000 := Nat.not_lt.2 h
  simp only [State.init, romOffset]
  cases p.variant with
  | romOnly => simp only [Cart.init]; omega
  | _ => simp only [Cart.init, if_neg hlow, BitVec.toNat_ofNat]; exact congrArg (· * 0x4000 + (a.toNat - 0x4000)) hmod

theorem ramTarget_init (p : Params) (a : Word) : ramTarget (State.init p).cart p.cfg a = .closed := by
  cases hv : p.variant <;> simp [State.init, Cart.init, ramTarget, hv]

/-- `svbk = 0` shows bank 1 for both bank counts (20_memory.md R84). -/
theorem wramIndex_zero (c : Config) (a : Word) : wramIndex c.wramBanks 0#3 a = 0x1000 + (a.toNat - 0xD000) := by
  unfold wramIndex
  cases c.wramBanks with
  | two => exact congrArg (· + (a.toNat - 0xD000)) (show 1 * 0x1000 = 0x1000 by decide)
  | eight => exact congrArg (· + (a.toNat - 0xD000)) (show max 1 (0#3).toNat * 0x1000 = 0x1000 by decide)

/-- F[3:0] is 0 whatever the flags are (10_state.md R23). -/
theorem toByte_low_nibble (f : Flags) : f.toByte &&& 0x0F#8 = 0x00#8 := by
  obtain ⟨z, n, hf, cf⟩ := f
  revert z n hf cf
  decide

end Sys2Proof.Machine

/-! The statements of 10_state.md, settled. -/

namespace Sys2Proof.Machine

/-- Settles O13: the CPU step, the tick, the notification and the interrupt step each keep the invariant; what stands
behind the bus changes by bus writes alone, and the latches by HALT alone. -/
theorem stepKeepsInvariant : Obligations.StepKeepsInvariant := by
  intro s t h hstep
  obtain ⟨hf, rfl | hr | ⟨u, hh, he, hc, rfl⟩⟩ := step_cases hstep
  · exact afterCpuStep_inv (s := phantomStep s) h hf
  · exact hr.inv h
  · exact afterCpuStep_inv (hc.inv he h hh hf) (hc.fault_eq.trans hf)

/-- Settles O9: every instruction answers, so only a recorded fault leaves a state without a step. -/
theorem stepAnswersUnlessFaulted : Obligations.StepAnswersUnlessFaulted := by
  intro s
  refine ⟨fun ⟨t, h⟩ => (step_cases h).1, fun hf => ?_⟩
  cases hh : s.halted with
  | true => exact ⟨_, step_halted hf hh⟩
  | false =>
    obtain ⟨u, hu, -⟩ := exec_answers (fetchInstr s) s
    exact ⟨_, step_running hf hh hu⟩

/-- Settles O14: a bus write keeps both, and nothing else writes either. -/
theorem stepKeepsConfiguration : Obligations.StepKeepsConfiguration := by
  intro s t hstep
  obtain ⟨-, rfl | ⟨-, op, rfl⟩ | ⟨u, -, -, hc, rfl⟩⟩ := step_cases hstep
  · exact afterCpuStep_config (phantomStep s)
  · exact ⟨rfl, rfl⟩
  · obtain ⟨hcfg, hvariant⟩ := afterCpuStep_config u
    exact ⟨hcfg.trans hc.bus.cfg_eq, hvariant.trans hc.bus.variant_eq⟩

/-- Settles O59, from the footprint of each instruction. -/
theorem registerFrame : Obligations.RegisterFrame := by
  intro i s t h
  rcases exec_cases h with ⟨hr, op, rfl⟩ | hc
  · exact ⟨fun _ _ => rfl, fun _ => rfl, fun _ => rfl,
      fun _ => ⟨rfl, rfl, rfl, rfl, rfl, rfl, rfl, rfl, rfl, rfl, rfl, rfl, rfl⟩, fun _ => rfl,
      fun hn => (by cases hr.symm.trans hn), rfl, rfl, rfl⟩
  · have hbus := hc.bus
    have hlatches := hc.latches_eq
    obtain ⟨-, promote, cost, u, rfl, -, hf⟩ := hc
    refine ⟨hf.regs, hf.sp, hf.f, fun hs => ?_, fun hi => (hlatches hi).1, fun _ => hf.fault, hbus.cfg_eq, hf.env,
      hf.cycles⟩
    rw [hs] at hbus
    exact ⟨hbus.ifr, hbus.ie, hbus.timer, hbus.dma, hbus.vbk, hbus.svbk, hbus.io, hbus.vram, hbus.wram, hbus.oam,
      hbus.hram, hbus.cram, hbus.cart⟩

/-- Settles O60: the fetches move PC past the instruction, and only a control transfer's Operation moves it again. -/
theorem advanceAndCost : Obligations.AdvanceAndCost := by
  intro i s t h hraises
  rcases exec_cases h with ⟨hr, -⟩ | ⟨-, promote, cost, u, rfl, hcost, hf⟩
  · cases hr.symm.trans hraises
  · exact ⟨hf.pc, hcost⟩

/-- Settles O10: the items by evaluation; the work RAM window shows bank 1 for both bank counts, and F[3:0] is 0 for
every flags. -/
theorem resetValues : Obligations.ResetValues := by
  intro p
  refine ⟨rfl, rfl, rfl, rfl, toByte_low_nibble p.flags, rfl, rfl, rfl, rfl, rfl, rfl, rfl, rfl, rfl, rfl, rfl,
    fun a hlo hhi => ?_, rfl, rfl, rfl, rfl, rfl, rfl, fun hv k => ?_⟩
  · simp only [readByte, regionOf_wramBank hlo hhi]
    exact congrArg p.mem.wram.read (wramIndex_zero p.cfg a)
  · simp only [State.init, Cart.init, hv, Cart.rtcRead]

/-- Settles O11: every variant starts at ROM bank 1 of at least two, with its RAM gate closed. -/
theorem resetBanks : Obligations.ResetBanks := by
  intro p hn
  refine ⟨?_, fun a h => ?_, fun a hlo hhi => ?_, fun a hlo hhi => ?_⟩
  · cases hv : p.variant <;> simp only [State.init, Cart.init, hv]
  · exact (readByte_rom (by omega)).trans (congrArg _ (romOffset_init_low p h))
  · exact (readByte_rom hhi).trans (congrArg _ (romOffset_init_high p hn hlo))
  · have hclosed : ramTarget (State.init p).cart (State.init p).cfg a = .closed := ramTarget_init p a
    simp only [readByte, regionOf_cartRam hlo hhi, cartReadRam, hclosed]

end Sys2Proof.Machine

/-! SUPPORT. The bus by region: what a read gives and what a write does in each row of the range table, and the parts
that a read of a row does not look at (20_memory.md R71, R79 to R99). -/

namespace Sys2Proof.Machine

/-! ## The rows as address ranges -/

theorem regionOf_vram {a : Word} (h : 0x8000 ≤ a.toNat) (h' : a.toNat < 0xA000) : regionOf a = .vram := by
  rw [regionOf, if_neg (by omega), if_pos h']

theorem regionOf_echo {a : Word} (h : 0xE000 ≤ a.toNat) (h' : a.toNat < 0xFE00) : regionOf a = .echo := by
  rw [regionOf, if_neg (by omega), if_neg (by omega), if_neg (by omega), if_neg (by omega), if_neg (by omega),
    if_pos h']

theorem regionOf_unusable {a : Word} (h : 0xFEA0 ≤ a.toNat) (h' : a.toNat < 0xFF00) : regionOf a = .unusable := by
  rw [regionOf, if_neg (by omega), if_neg (by omega), if_neg (by omega), if_neg (by omega), if_neg (by omega),
    if_neg (by omega), if_neg (by omega), if_pos h']

/-- The first address of a row (20_memory.md R71). -/
def Region.base : Region → Nat
  | .rom => 0x0000
  | .vram => 0x8000
  | .cartRam => 0xA000
  | .wramFixed => 0xC000
  | .wramBank => 0xD000
  | .echo => 0xE000
  | .oam => 0xFE00
  | .unusable => 0xFEA0
  | .io => 0xFF00
  | .hram => 0xFF80
  | .ie => 0xFFFF

theorem base_le (a : Word) : (regionOf a).base ≤ a.toNat := by
  have hb := regionOf_bounds a
  cases hr : regionOf a with
  | rom => exact Nat.zero_le _
  | ie => rw [hr] at hb; exact Nat.le_of_eq hb.symm
  | _ => rw [hr] at hb; exact hb.1

theorem eq_of_regionOf_ie {a x : Word} (ha : regionOf a = .ie) (hx : regionOf x = .ie) : a = x := by
  have hla := regionOf_bounds a
  have hlx := regionOf_bounds x
  rw [ha] at hla
  rw [hx] at hlx
  exact BitVec.eq_of_toNat_eq (hla.trans hlx.symm)

/-- Two addresses of one row have different offsets in it. -/
theorem offset_ne {r : Region} {n : Nat} {a x : Word} (ha : regionOf a = r) (hx : regionOf x = r) (h : a ≠ x)
    (hn : r.base = n := by rfl) : a.toNat - n ≠ x.toNat - n := by
  have hla := base_le a
  have hlx := base_le x
  rw [ha, hn] at hla
  rw [hx, hn] at hlx
  have hne := mt BitVec.eq_of_toNat_eq h
  omega

/-! ## The registers of the I/O window -/

/-- A read of an I/O register looks at the registers of the window and the device-owned bytes alone. -/
theorem ioRead_congr {u s : State} (htimer : u.timer = s.timer) (hifr : u.ifr = s.ifr) (hdma : u.dma = s.dma)
    (hvbk : u.vbk = s.vbk) (hsvbk : u.svbk = s.svbk) (hio : u.io = s.io) (r : IoReg) : ioRead u r = ioRead s r := by
  cases r <;> simp only [ioRead, htimer, hifr, hdma, hvbk, hsvbk, hio]

/-- The offset of an I/O register from 0xFF00 (20_memory.md R90). -/
def IoReg.offset : IoReg → Nat
  | .div => 0x04
  | .tima => 0x05
  | .tma => 0x06
  | .tac => 0x07
  | .ifr => 0x0F
  | .dma => 0x46
  | .vbk => 0x4F
  | .svbk => 0x70
  | .device k => k

theorem offset_ioRegOf (k : Nat) : (ioRegOf k).offset = k := by
  unfold ioRegOf
  repeat' split
  all_goals simp_all only [IoReg.offset]

/-- Each offset of the window is a register of its own. -/
theorem ioRegOf_injective {j k : Nat} (h : ioRegOf j = ioRegOf k) : j = k := by
  rw [← offset_ioRegOf j, h, offset_ioRegOf]

theorem ioWrite_dma (s : State) (v : Byte) :
    ioWrite s .dma v = { s with dma := v, oam := (ioWrite s .dma v).oam } :=
  dmaCopy_eq v { s with dma := v }

/-- A write of one I/O register leaves what every other one reads as. -/
theorem ioRead_ioWrite_ne (s : State) {r r' : IoReg} (v : Byte) (h : r' ≠ r) :
    ioRead (ioWrite s r v) r' = ioRead s r' := by
  cases r with
  | dma =>
    rw [ioWrite_dma]
    cases r' with
    | dma => exact absurd rfl h
    | _ => rfl
  | device k =>
    cases r' with
    | device j => exact Memory.read_write_ne s.io v fun hjk => h (congrArg IoReg.device hjk)
    | _ => rfl
  | _ => cases r' <;> simp_all [ioWrite, ioRead]

/-! ## Reads and writes, row by row -/

section
variable {a : Word}

theorem readByte_vram (s : State) (h : regionOf a = .vram) :
    readByte s a = s.vram.read (vramIndex s.cfg.vramBanks s.vbk a) := by
  simp only [readByte, h]

theorem writeByte_vram (s : State) (v : Byte) (h : regionOf a = .vram) :
    writeByte s a v = { s with vram := s.vram.write (vramIndex s.cfg.vramBanks s.vbk a) v } := by
  simp only [writeByte, h]

theorem readByte_wramFixed (s : State) (h : regionOf a = .wramFixed) :
    readByte s a = s.wram.read (a.toNat - 0xC000) := by
  simp only [readByte, h]

theorem writeByte_wramFixed (s : State) (v : Byte) (h : regionOf a = .wramFixed) :
    writeByte s a v = { s with wram := s.wram.write (a.toNat - 0xC000) v } := by
  simp only [writeByte, h]

theorem readByte_wramBank (s : State) (h : regionOf a = .wramBank) :
    readByte s a = s.wram.read (wramIndex s.cfg.wramBanks s.svbk a) := by
  simp only [readByte, h]

theorem writeByte_wramBank (s : State) (v : Byte) (h : regionOf a = .wramBank) :
    writeByte s a v = { s with wram := s.wram.write (wramIndex s.cfg.wramBanks s.svbk a) v } := by
  simp only [writeByte, h]

theorem readByte_oam (s : State) (h : regionOf a = .oam) : readByte s a = s.oam.read (a.toNat - 0xFE00) := by
  simp only [readByte, h]

theorem writeByte_oam (s : State) (v : Byte) (h : regionOf a = .oam) :
    writeByte s a v = { s with oam := s.oam.write (a.toNat - 0xFE00) v } := by
  simp only [writeByte, h]

theorem readByte_io (s : State) (h : regionOf a = .io) : readByte s a = ioRead s (ioRegOf (a.toNat - 0xFF00)) := by
  simp only [readByte, h]

theorem writeByte_io (s : State) (v : Byte) (h : regionOf a = .io) :
    writeByte s a v = ioWrite s (ioRegOf (a.toNat - 0xFF00)) v := by
  simp only [writeByte, h]

theorem readByte_hram (s : State) (h : regionOf a = .hram) : readByte s a = s.hram.read (a.toNat - 0xFF80) := by
  simp only [readByte, h]

theorem writeByte_hram (s : State) (v : Byte) (h : regionOf a = .hram) :
    writeByte s a v = { s with hram := s.hram.write (a.toNat - 0xFF80) v } := by
  simp only [writeByte, h]

theorem readByte_ie (s : State) (h : regionOf a = .ie) : readByte s a = s.ie := by
  simp only [readByte, h]

theorem writeByte_ie (s : State) (v : Byte) (h : regionOf a = .ie) : writeByte s a v = { s with ie := v } := by
  simp only [writeByte, h]

theorem writeByte_rom (s : State) (v : Byte) (h : regionOf a = .rom) :
    writeByte s a v = { s with cart := s.cart.control a v } := by
  simp only [writeByte, h, cartWriteRom]

/-- A write to a row that discards it. -/
theorem writeByte_discarded (s : State) (v : Byte) (h : regionOf a = .echo ∨ regionOf a = .unusable) :
    writeByte s a v = s := by
  rcases h with h | h <;> simp only [writeByte, h]

theorem readByte_discarded (s : State) (h : regionOf a = .echo ∨ regionOf a = .unusable) : readByte s a = 0xFF#8 := by
  rcases h with h | h <;> simp only [readByte, h]

/-- The cartridge RAM window where nothing is behind it (20_memory.md R113). -/
theorem cartRam_closed (s : State) (v : Byte) (h : regionOf a = .cartRam) (ht : ramTarget s.cart s.cfg a = .closed) :
    readByte s a = 0xFF#8 ∧ writeByte s a v = s := by
  simp only [readByte, writeByte, h, cartReadRam, cartWriteRam, ht, and_self]

/-- The cartridge RAM window over a byte of `cram` (20_memory.md R116, R120, R124). -/
theorem cartRam_cram (s : State) (v : Byte) {i : Nat} (h : regionOf a = .cartRam)
    (ht : ramTarget s.cart s.cfg a = .cram i) :
    readByte s a = s.cram.read i ∧ writeByte s a v = { s with cram := s.cram.write i v } := by
  simp only [readByte, writeByte, h, cartReadRam, cartWriteRam, ht, and_self]

/-- The cartridge RAM window over a clock byte (20_memory.md R120). -/
theorem cartRam_rtc (s : State) (v : Byte) {i : Nat} (h : regionOf a = .cartRam)
    (ht : ramTarget s.cart s.cfg a = .rtc i) :
    readByte s a = s.cart.rtcRead i ∧ writeByte s a v = { s with cart := s.cart.rtcWrite i v } := by
  simp only [readByte, writeByte, h, cartReadRam, cartWriteRam, ht, and_self]

end

/-! ## What a read looks at -/

/-- `u` and `s` agree on every part behind the bus that a read at `a` looks at. -/
structure AgreeAt (a : Word) (u s : State) : Prop where
  cfg : u.cfg = s.cfg := by rfl
  romOffset : regionOf a = .rom → romOffset u.cart u.cfg a = romOffset s.cart s.cfg a := by intro _; rfl
  cart : regionOf a = .cartRam → u.cart = s.cart := by intro _; rfl
  vbk : regionOf a = .vram → u.vbk = s.vbk := by intro _; rfl
  svbk : regionOf a = .wramBank → u.svbk = s.svbk := by intro _; rfl
  vram : regionOf a = .vram →
    u.vram.read (vramIndex s.cfg.vramBanks s.vbk a) = s.vram.read (vramIndex s.cfg.vramBanks s.vbk a) := by
      intro _; rfl
  cram : regionOf a = .cartRam → ∀ i, ramTarget s.cart s.cfg a = .cram i → u.cram.read i = s.cram.read i := by
    intro _ _ _; rfl
  wramFixed : regionOf a = .wramFixed → u.wram.read (a.toNat - 0xC000) = s.wram.read (a.toNat - 0xC000) := by
    intro _; rfl
  wramBank : regionOf a = .wramBank →
    u.wram.read (wramIndex s.cfg.wramBanks s.svbk a) = s.wram.read (wramIndex s.cfg.wramBanks s.svbk a) := by
      intro _; rfl
  oam : regionOf a = .oam → u.oam.read (a.toNat - 0xFE00) = s.oam.read (a.toNat - 0xFE00) := by intro _; rfl
  io : regionOf a = .io → ∀ r, ioRegOf (a.toNat - 0xFF00) = r → ioRead u r = ioRead s r := by
    intro _ r _; exact ioRead_congr rfl rfl rfl rfl rfl rfl r
  hram : regionOf a = .hram → u.hram.read (a.toNat - 0xFF80) = s.hram.read (a.toNat - 0xFF80) := by intro _; rfl
  ie : regionOf a = .ie → u.ie = s.ie := by intro _; rfl

theorem AgreeAt.readByte_eq {a : Word} {u s : State} (h : AgreeAt a u s) : readByte u a = readByte s a := by
  cases hr : regionOf a with
  | rom =>
    simp only [readByte, hr, cartReadRom]
    rw [h.romOffset hr, h.cfg]
  | vram => rw [readByte_vram u hr, readByte_vram s hr, h.cfg, h.vbk hr, h.vram hr]
  | cartRam =>
    simp only [readByte, hr, cartReadRam, h.cart hr, h.cfg]
    cases ht : ramTarget s.cart s.cfg a with
    | cram i => exact h.cram hr i ht
    | _ => rfl
  | wramFixed => rw [readByte_wramFixed u hr, readByte_wramFixed s hr, h.wramFixed hr]
  | wramBank => rw [readByte_wramBank u hr, readByte_wramBank s hr, h.cfg, h.svbk hr, h.wramBank hr]
  | echo => rw [readByte_discarded u (.inl hr), readByte_discarded s (.inl hr)]
  | oam => rw [readByte_oam u hr, readByte_oam s hr, h.oam hr]
  | unusable => rw [readByte_discarded u (.inr hr), readByte_discarded s (.inr hr)]
  | io => rw [readByte_io u hr, readByte_io s hr, h.io hr _ rfl]
  | hram => rw [readByte_hram u hr, readByte_hram s hr, h.hram hr]
  | ie => rw [readByte_ie u hr, readByte_ie s hr, h.ie hr]

/-! ## Addresses of one window show different bytes -/

theorem vramIndex_ne (b : VramBanks) (k : BitVec 1) {a x : Word} (ha : regionOf a = .vram) (hx : regionOf x = .vram)
    (h : a ≠ x) : vramIndex b k a ≠ vramIndex b k x :=
  fun he => absurd (Nat.add_left_cancel he) (offset_ne ha hx h)

theorem wramIndex_ne (b : WramBanks) (k : BitVec 3) {a x : Word} (ha : regionOf a = .wramBank)
    (hx : regionOf x = .wramBank) (h : a ≠ x) : wramIndex b k a ≠ wramIndex b k x :=
  fun he => absurd (Nat.add_left_cancel he) (offset_ne ha hx h)

/-- The fixed bank of work RAM is never the one its switchable window shows (20_memory.md R83, R84). -/
theorem wramFixed_ne_wramIndex (c : Config) (k : BitVec 3) {a x : Word} (ha : regionOf a = .wramFixed)
    (hx : regionOf x = .wramBank) : a.toNat - 0xC000 ≠ wramIndex c.wramBanks k x := by
  have hla := regionOf_bounds a
  have hlx := (wramIndex_bounds c k hx).1
  rw [ha] at hla
  obtain ⟨_, hlt⟩ := hla
  omega

/-- Every cartridge RAM is a number of 8 KiB banks (00_scope.md R10). -/
theorem bytes_dvd (z : CartRamSize) : 0x2000 ∣ z.bytes := by
  cases z <;> decide

theorem cramAt_of_none {c : Config} (h : c.cramSize = .none) (bank : Nat) (a : Word) : cramAt c bank a = .closed := by
  rw [cramAt, h, if_pos (by rfl)]

theorem cramAt_of_ne_none {c : Config} (h : c.cramSize ≠ .none) (bank : Nat) (a : Word) :
    cramAt c bank a = .cram ((bank * 0x2000 + (a.toNat - 0xA000)) % c.cramSize.bytes) := by
  refine if_neg ?_
  cases hz : c.cramSize with
  | none => exact absurd hz h
  | _ => decide

/-- Behind the cartridge RAM window stands nothing, a byte of a bank, or the selected clock byte. -/
theorem ramTarget_cases (s : State) (a : Word) :
    ramTarget s.cart s.cfg a = .closed ∨ (∃ bank, ramTarget s.cart s.cfg a = cramAt s.cfg bank a) ∨
      (clockSelected s = true ∧ ∃ i, ramTarget s.cart s.cfg a = .rtc i) := by
  unfold clockSelected ramTarget
  cases s.cart with
  | romOnly => exact .inl rfl
  | mbc1 m | mbc5 m =>
    simp only
    split
    · exact .inr (.inl ⟨_, rfl⟩)
    · exact .inl rfl
  | mbc3 m =>
    simp only
    split
    · next hopen =>
      split
      · next hsel => exact .inr (.inr ⟨by simp [hopen, hsel], _, rfl⟩)
      · split
        · exact .inr (.inl ⟨_, rfl⟩)
        · exact .inl rfl
    · exact .inl rfl

theorem cramAt_cases (c : Config) (bank : Nat) (a : Word) :
    cramAt c bank a = .closed ∨ cramAt c bank a = .cram ((bank * 0x2000 + (a.toNat - 0xA000)) % c.cramSize.bytes) := by
  unfold cramAt
  split
  · exact .inl rfl
  · exact .inr rfl

/-- A byte of `cram` behind the window is one of a bank. -/
theorem exists_bank_of_ramTarget {s : State} {a : Word} {i : Nat} (h : ramTarget s.cart s.cfg a = .cram i) :
    ∃ bank, i = (bank * 0x2000 + (a.toNat - 0xA000)) % s.cfg.cramSize.bytes := by
  rcases ramTarget_cases s a with hc | ⟨bank, hb⟩ | ⟨-, j, hj⟩
  · cases hc.symm.trans h
  · rcases cramAt_cases s.cfg bank a with hc | hc
    · cases (hb.trans hc).symm.trans h
    · exact ⟨bank, (RamTarget.cram.inj ((hb.trans hc).symm.trans h)).symm⟩
  · cases hj.symm.trans h

/-- Only a window that shows the clock has a clock byte behind it. -/
theorem clockSelected_of_ramTarget {s : State} {a : Word} {i : Nat} (h : ramTarget s.cart s.cfg a = .rtc i) :
    clockSelected s = true := by
  rcases ramTarget_cases s a with hc | ⟨bank, hb⟩ | ⟨hsel, -⟩
  · cases hc.symm.trans h
  · rcases cramAt_cases s.cfg bank a with hc | hc <;> cases (hb.trans hc).symm.trans h
  · exact hsel

/-- The offset in the window is kept by the reduction modulo the size. -/
theorem ramTarget_cram_mod {s : State} {a : Word} {i : Nat} (ha : regionOf a = .cartRam)
    (h : ramTarget s.cart s.cfg a = .cram i) : i % 0x2000 = a.toNat - 0xA000 := by
  have hla := regionOf_bounds a
  rw [ha] at hla
  obtain ⟨hlo, hhi⟩ := hla
  obtain ⟨bank, hi⟩ := exists_bank_of_ramTarget h
  rw [hi, Nat.mod_mod_of_dvd _ (bytes_dvd s.cfg.cramSize)]
  omega

theorem ramTarget_cram_ne {s : State} {a x : Word} {i j : Nat} (ha : regionOf a = .cartRam)
    (hx : regionOf x = .cartRam) (hi : ramTarget s.cart s.cfg a = .cram i)
    (hj : ramTarget s.cart s.cfg x = .cram j) (h : a ≠ x) : i ≠ j := by
  rintro rfl
  exact absurd ((ramTarget_cram_mod ha hi).symm.trans (ramTarget_cram_mod hx hj)) (offset_ne ha hx h)

/-! ## A write of a clock byte -/

theorem romOffset_rtcWrite (cart : Cart) (c : Config) (a : Word) (i : Nat) (v : Byte) :
    romOffset (cart.rtcWrite i v) c a = romOffset cart c a := by
  cases cart <;> rfl

theorem ramTarget_rtcWrite (cart : Cart) (c : Config) (a : Word) (i : Nat) (v : Byte) :
    ramTarget (cart.rtcWrite i v) c a = ramTarget cart c a := by
  cases cart <;> rfl

theorem clockSelected_rtcWrite (s : State) (i : Nat) (v : Byte) :
    clockSelected { s with cart := s.cart.rtcWrite i v } = clockSelected s := by
  unfold clockSelected
  cases s.cart <;> rfl

/-! ## The frame of a bus write -/

section
variable {s : State} {x a : Word}

theorem readByte_frame_cartRam (v : Byte) (hx : regionOf x = .cartRam) (hne : a ≠ x)
    (hclock : clockSelected s = true → regionOf a ≠ .cartRam) : readByte (writeByte s x v) a = readByte s a := by
  cases ht : ramTarget s.cart s.cfg x with
  | closed => rw [(cartRam_closed s v hx ht).2]
  | cram i =>
    rw [(cartRam_cram s v hx ht).2]
    exact AgreeAt.readByte_eq
      { cram := fun ha j hj => Memory.read_write_ne s.cram v (ramTarget_cram_ne ha hx hj ht hne) }
  | rtc i =>
    rw [(cartRam_rtc s v hx ht).2]
    exact AgreeAt.readByte_eq
      { romOffset := fun _ => romOffset_rtcWrite s.cart s.cfg a i v
        cart := fun ha => absurd ha (hclock (clockSelected_of_ramTarget ht)) }

theorem ioReg_ne {r : IoReg} (ha : regionOf a = .io) (hx : regionOf x = .io) (hne : a ≠ x)
    (hr : ioRegOf (a.toNat - 0xFF00) = r) : r ≠ ioRegOf (x.toNat - 0xFF00) :=
  fun he => absurd (ioRegOf_injective (hr.trans he)) (offset_ne ha hx hne)

/-- A write of an I/O register shows at no other register; elsewhere only DMA shows, in the object memory, and a bank
selector, in its window. -/
theorem readByte_ioWrite_frame {rx : IoReg} (v : Byte)
    (hne : regionOf a = .io → ∀ r, ioRegOf (a.toNat - 0xFF00) = r → r ≠ rx) (hdma : rx = .dma → regionOf a ≠ .oam)
    (hvbk : rx = .vbk → regionOf a ≠ .vram) (hsvbk : rx = .svbk → regionOf a ≠ .wramBank) :
    readByte (ioWrite s rx v) a = readByte s a := by
  have hio : regionOf a = .io → ∀ r, ioRegOf (a.toNat - 0xFF00) = r → ioRead (ioWrite s rx v) r = ioRead s r :=
    fun ha r hr => ioRead_ioWrite_ne s v (hne ha r hr)
  cases rx with
  | dma =>
    rw [ioWrite_dma] at *
    exact AgreeAt.readByte_eq { io := hio, oam := fun ha => absurd ha (hdma rfl) }
  | vbk => exact AgreeAt.readByte_eq { io := hio, vbk := fun ha => absurd ha (hvbk rfl) }
  | svbk => exact AgreeAt.readByte_eq { io := hio, svbk := fun ha => absurd ha (hsvbk rfl) }
  | _ => exact AgreeAt.readByte_eq { io := hio }

/-- A bus write changes what is read at no address that it does not touch (20_memory.md R79). -/
theorem readByte_writeByte_of_not_touched (v : Byte) (h : touched s x a = false) :
    readByte (writeByte s x v) a = readByte s a := by
  unfold touched at h
  cases hx : regionOf x with
  | rom =>
    simp only [hx, Bool.or_eq_false_iff, beq_eq_false_iff_ne] at h
    obtain ⟨hrom, hram⟩ := h
    rw [writeByte_rom s v hx]
    exact AgreeAt.readByte_eq { romOffset := fun ha => absurd ha hrom, cart := fun ha => absurd ha hram }
  | vram =>
    simp only [hx, beq_eq_false_iff_ne] at h
    rw [writeByte_vram s v hx]
    exact AgreeAt.readByte_eq { vram := fun ha => Memory.read_write_ne s.vram v (vramIndex_ne _ _ ha hx h) }
  | cartRam =>
    simp only [hx, Bool.or_eq_false_iff, beq_eq_false_iff_ne, Bool.and_eq_false_imp] at h
    exact readByte_frame_cartRam v hx h.1 h.2
  | wramFixed =>
    simp only [hx, beq_eq_false_iff_ne] at h
    rw [writeByte_wramFixed s v hx]
    exact AgreeAt.readByte_eq
      { wramFixed := fun ha => Memory.read_write_ne s.wram v (offset_ne ha hx h)
        wramBank := fun ha => Memory.read_write_ne s.wram v (wramFixed_ne_wramIndex s.cfg s.svbk hx ha).symm }
  | wramBank =>
    simp only [hx, beq_eq_false_iff_ne] at h
    rw [writeByte_wramBank s v hx]
    exact AgreeAt.readByte_eq
      { wramFixed := fun ha => Memory.read_write_ne s.wram v (wramFixed_ne_wramIndex s.cfg s.svbk ha hx)
        wramBank := fun ha => Memory.read_write_ne s.wram v (wramIndex_ne _ _ ha hx h) }
  | echo => rw [writeByte_discarded s v (.inl hx)]
  | oam =>
    simp only [hx, beq_eq_false_iff_ne] at h
    rw [writeByte_oam s v hx]
    exact AgreeAt.readByte_eq { oam := fun ha => Memory.read_write_ne s.oam v (offset_ne ha hx h) }
  | unusable => rw [writeByte_discarded s v (.inr hx)]
  | io =>
    simp only [hx, Bool.or_eq_false_iff, beq_eq_false_iff_ne] at h
    obtain ⟨hne, hreg⟩ := h
    rw [writeByte_io s v hx]
    refine readByte_ioWrite_frame v (fun ha _ => ioReg_ne ha hx hne) ?_ ?_ ?_ <;>
      exact fun hr => by simpa only [hr, beq_eq_false_iff_ne] using hreg
  | hram =>
    simp only [hx, beq_eq_false_iff_ne] at h
    rw [writeByte_hram s v hx]
    exact AgreeAt.readByte_eq { hram := fun ha => Memory.read_write_ne s.hram v (offset_ne ha hx h) }
  | ie =>
    simp only [hx, beq_eq_false_iff_ne] at h
    rw [writeByte_ie s v hx]
    exact AgreeAt.readByte_eq { ie := fun ha => absurd (eq_of_regionOf_ie ha hx) h }

end

/-! ## Reading back what was written -/

section
variable {s : State} {a : Word}

theorem exists_mbc3_of_clockSelected (h : clockSelected s = true) : ∃ m, s.cart = .mbc3 m := by
  unfold clockSelected at h
  split at h
  · next m hm => exact ⟨m, hm⟩
  · cases h

theorem readByte_writeByte_cartRam (v : Byte) (ha : regionOf a = .cartRam) (hopen : ramTarget s.cart s.cfg a ≠ .closed)
    (hcram : s.cram.wf = true) (hok : s.cart.ok = true) : readByte (writeByte s a v) a = v := by
  cases ht : ramTarget s.cart s.cfg a with
  | closed => exact absurd ht hopen
  | cram i =>
    rw [(cartRam_cram s v ha ht).2]
    exact (cartRam_cram { s with cram := s.cram.write i v } v ha ht).1.trans (Memory.read_write_self hcram i v)
  | rtc i =>
    obtain ⟨m, hm⟩ := exists_mbc3_of_clockSelected (clockSelected_of_ramTarget ht)
    have hrtc : m.rtc.wf = true := by
      rw [hm] at hok
      simp only [Cart.ok, Bool.and_eq_true] at hok
      exact hok.1.2
    rw [(cartRam_rtc s v ha ht).2, (cartRam_rtc _ v ha ((ramTarget_rtcWrite s.cart s.cfg a i v).trans ht)).1, hm]
    exact Memory.read_write_self hrtc i v

/-- The I/O registers whose whole byte is stored (20_memory.md R92, R95, R96). -/
theorem ioRead_ioWrite_self {r : IoReg} (v : Byte) (hio : s.io.wf = true)
    (hr : r = .tima ∨ r = .tma ∨ r = .dma ∨ ∃ k, r = .device k) : ioRead (ioWrite s r v) r = v := by
  rcases hr with rfl | rfl | rfl | ⟨k, rfl⟩
  · rfl
  · rfl
  · rw [ioWrite_dma]; rfl
  · exact Memory.read_write_self hio k v

theorem ioReg_of_storage (ha : regionOf a = .io) (h : storage s a = true) :
    ioRegOf (a.toNat - 0xFF00) = .tima ∨ ioRegOf (a.toNat - 0xFF00) = .tma ∨ ioRegOf (a.toNat - 0xFF00) = .dma ∨
      ∃ k, ioRegOf (a.toNat - 0xFF00) = .device k := by
  unfold storage at h
  generalize ioRegOf (a.toNat - 0xFF00) = r at h ⊢
  rw [ha] at h
  cases r <;> simp at h ⊢

theorem readByte_writeByte_self (v : Byte) (hs : s.storesOk = true) (hok : s.cart.ok = true)
    (h : storage s a = true) : readByte (writeByte s a v) a = v := by
  obtain ⟨⟨hio, -⟩, ⟨hvram, -⟩, ⟨hwram, -⟩, ⟨hoam, -⟩, ⟨hhram, -⟩, ⟨hcram, -⟩, -⟩ := (storesOk_iff s).1 hs
  cases ha : regionOf a with
  | vram => rw [writeByte_vram s v ha, readByte_vram _ ha]; exact Memory.read_write_self hvram _ v
  | cartRam =>
    simp only [storage, ha, bne_iff_ne] at h
    exact readByte_writeByte_cartRam v ha h hcram hok
  | wramFixed => rw [writeByte_wramFixed s v ha, readByte_wramFixed _ ha]; exact Memory.read_write_self hwram _ v
  | wramBank => rw [writeByte_wramBank s v ha, readByte_wramBank _ ha]; exact Memory.read_write_self hwram _ v
  | oam => rw [writeByte_oam s v ha, readByte_oam _ ha]; exact Memory.read_write_self hoam _ v
  | io =>
    rw [writeByte_io s v ha, readByte_io _ ha]
    exact ioRead_ioWrite_self v hio (ioReg_of_storage ha h)
  | hram => rw [writeByte_hram s v ha, readByte_hram _ ha]; exact Memory.read_write_self hhram _ v
  | ie => rw [writeByte_ie s v ha, readByte_ie _ ha]
  | rom | echo | unusable => simp only [storage, ha, Bool.false_eq_true] at h

end

/-! ## The stores of an instruction -/

section
variable {s : State} {x a : Word}

/-- Outside the control writes a bus write leaves the selection of the clock. -/
theorem clockSelected_writeByte (v : Byte) (hx : regionOf x ≠ .rom) :
    clockSelected (writeByte s x v) = clockSelected s := by
  cases hr : regionOf x with
  | rom => exact absurd hr hx
  | cartRam =>
    cases ht : ramTarget s.cart s.cfg x with
    | closed => rw [(cartRam_closed s v hr ht).2]
    | cram i => rw [(cartRam_cram s v hr ht).2]; rfl
    | rtc i => rw [(cartRam_rtc s v hr ht).2, clockSelected_rtcWrite]
  | io =>
    rw [writeByte_io s v hr]
    generalize ioRegOf (x.toNat - 0xFF00) = r
    cases r with
    | dma => rw [ioWrite_dma]; rfl
    | _ => rfl
  | echo => rw [writeByte_discarded s v (.inl hr)]
  | unusable => rw [writeByte_discarded s v (.inr hr)]
  | vram => rw [writeByte_vram s v hr]; rfl
  | wramFixed => rw [writeByte_wramFixed s v hr]; rfl
  | wramBank => rw [writeByte_wramBank s v hr]; rfl
  | oam => rw [writeByte_oam s v hr]; rfl
  | hram => rw [writeByte_hram s v hr]; rfl
  | ie => rw [writeByte_ie s v hr]; rfl

/-- No address of the ROM windows has the cartridge RAM window after it. -/
theorem regionOf_ne_rom_of_next (h : regionOf (x + 1#16) = .cartRam) : regionOf x ≠ .rom := by
  intro hx
  have hb := regionOf_bounds (x + 1#16)
  have hlx := regionOf_bounds x
  rw [h] at hb
  rw [hx] at hlx
  simp only [BitVec.toNat_add, BitVec.toNat_ofNat] at hb hlx
  omega

/-- The first byte of a word write moves nothing that the second one touches. -/
theorem touched_writeByte_next (v : Byte) : touched (writeByte s x v) (x + 1#16) a = touched s (x + 1#16) a := by
  unfold touched
  cases h : regionOf (x + 1#16) with
  | cartRam => simp only [clockSelected_writeByte v (regionOf_ne_rom_of_next h)]
  | _ => rfl

/-- No store, one byte, or one word, low byte first. -/
def OneStore (as : List Word) : Prop := as = [] ∨ (∃ x, as = [x]) ∨ ∃ x, as = [x, x + 1#16]

theorem oneStore_byte (x : Word) : OneStore [x] := .inr (.inl ⟨x, rfl⟩)

theorem oneStore_push (sp : Word) : OneStore [sp - 2#16, sp - 1#16] :=
  .inr (.inr ⟨sp - 2#16, by rw [show sp - 2#16 + 1#16 = sp - 1#16 by bv_omega]⟩)

theorem oneStore_ite {c : Prop} [Decidable c] {as : List Word} (h : OneStore as) : OneStore (if c then as else []) := by
  split
  · exact h
  · exact .inl rfl

/-- An instruction stores nothing, a byte, or a word. -/
theorem oneStore_storedAt (s : State) (i : Instr) : OneStore (storedAt s i) := by
  cases i with
  | ldIndHlIncA | ldIndHlDecA | incIndHl | decIndHl | ldIndHlD8 | ldIndHlB | ldIndHlC | ldIndHlD | ldIndHlE | ldIndHlH
  | ldIndHlL | ldIndHlA | rlcIndHl | rrcIndHl | rlIndHl | rrIndHl | slaIndHl | sraIndHl | swapIndHl | srlIndHl
  | res0IndHl | res1IndHl | res2IndHl | res3IndHl | res4IndHl | res5IndHl | res6IndHl | res7IndHl | set0IndHl
  | set1IndHl | set2IndHl | set3IndHl | set4IndHl | set5IndHl | set6IndHl | set7IndHl | ldIndBcA | ldIndDeA
  | ldIndA16A | ldhIndCA | ldhIndA8A => exact oneStore_byte _
  | ldIndA16Sp a => exact .inr (.inr ⟨a, rfl⟩)
  | pushBc | pushDe | pushHl | pushAf | callA16 | rst00 | rst08 | rst10 | rst18 | rst20 | rst28 | rst30 | rst38 =>
    exact oneStore_push s.sp
  | callNzA16 | callZA16 | callNcA16 | callCA16 => exact oneStore_ite (oneStore_push s.sp)
  | prefixCb => exact oneStore_ite (oneStore_byte _)
  | _ => exact .inl rfl

/-- An address that no store of an instruction touches, in the state before it, reads the same after its stores. -/
theorem readByte_busWrites {t : State} {i : Instr} (h : BusWrites s t (storedAt s i))
    (hx : ∀ x ∈ storedAt s i, touched s x a = false) : readByte t a = readByte s a := by
  rcases oneStore_storedAt s i with hi | ⟨x, hi⟩ | ⟨x, hi⟩ <;> rw [hi] at h hx
  · exact readByte_sameBus h a
  · obtain ⟨v, ht⟩ := h
    rw [readByte_sameBus ht, readByte_writeByte_of_not_touched v (hx x (by simp))]
  · obtain ⟨v, w, ht⟩ := h
    have hnext : touched (writeByte s x v) (x + 1#16) a = false := by
      rw [touched_writeByte_next, hx _ (by simp)]
    rw [readByte_sameBus ht, readByte_writeByte_of_not_touched w hnext,
      readByte_writeByte_of_not_touched v (hx x (by simp))]

end

/-! ## The DMA copy -/

/-- A source in the object memory is the byte's own address. -/
theorem dmaSource_offset (v : Byte) {n : Nat} (hn : n < 160)
    (h : regionOf (BitVec.ofNat 16 (v.toNat * 0x100 + n)) = .oam) :
    (BitVec.ofNat 16 (v.toNat * 0x100 + n)).toNat - 0xFE00 = n := by
  have hb := regionOf_bounds (BitVec.ofNat 16 (v.toNat * 0x100 + n))
  have hv := v.isLt
  rw [h] at hb
  simp only [BitVec.toNat_ofNat] at hb ⊢
  omega

/-- After `n` bytes of the copy: those hold what the bus read at their source before it, the others what they held. A
source in the object memory itself is not yet written when it is read (20_memory.md R95, R135). -/
theorem dmaFold_read (v : Byte) {s : State} (hs : s.storesOk = true) {n : Nat} (hn : n ≤ 160) (i : Nat) :
    ((List.range n).foldl (dmaByte v) s).oam.read i =
      if i < n then readByte s (BitVec.ofNat 16 (v.toNat * 0x100 + i)) else s.oam.read i := by
  induction n generalizing i with
  | zero => rfl
  | succ n ih =>
    have ih := ih (by omega)
    have hsource : readByte ((List.range n).foldl (dmaByte v) s) (BitVec.ofNat 16 (v.toNat * 0x100 + n)) =
        readByte s (BitVec.ofNat 16 (v.toNat * 0x100 + n)) := by
      rw [dmaFold_eq]
      exact AgreeAt.readByte_eq
        { oam := fun ha => by rw [dmaSource_offset v (by omega) ha, ih n, if_neg (by omega)] }
    have hwf : ((List.range n).foldl (dmaByte v) s).oam.wf = true := by
      have hok := dmaFold_storesOk v (List.range n) (fun j hj => by have := List.mem_range.1 hj; omega) s hs
      obtain ⟨-, -, -, ⟨h, -⟩, -⟩ := (storesOk_iff _).1 hok
      exact h
    rw [List.range_succ, List.foldl_append, List.foldl_cons, List.foldl_nil, dmaByte, hsource]
    by_cases hi : i = n
    · subst hi
      rw [if_pos (by omega)]
      exact Memory.read_write_self hwf i _
    · have hlt : i < n + 1 ↔ i < n := by omega
      simp only [hlt, Memory.read_write_ne _ _ hi, ih i]

/-! ## The collaborators' answer -/

/-- The requests of one answer, as bits of `IF` (60_exceptions.md R351, R384). -/
def requestMask (e : EnvAnswer) : BitVec 5 :=
  (if e.joypad then 0b10000#5 else 0#5) ||| (if e.serial then 0b01000#5 else 0#5) |||
    (if e.lcdStatus then 0b00010#5 else 0#5) ||| (if e.vblank then 0b00001#5 else 0#5)

theorem requestMask_source2 (e : EnvAnswer) : (requestMask e).getLsbD 2 = false := by
  have hbit : ∀ (c : Bool) (m : BitVec 5), m.getLsbD 2 = false → (if c then m else 0#5).getLsbD 2 = false := by decide
  simp only [requestMask, BitVec.getLsbD_or, Bool.or_eq_false_iff]
  exact ⟨⟨⟨hbit _ _ rfl, hbit _ _ rfl⟩, hbit _ _ rfl⟩, hbit _ _ rfl⟩

theorem requestIf_eq (c : Bool) (i : Nat) (s : State) :
    requestIf c i s = { s with ifr := s.ifr ||| (if c then 1#5 <<< i else 0#5) } := by
  cases c with
  | true => rfl
  | false => simp [requestIf]

theorem envByte_eq (s : State) (u : BitVec 7 × Byte) : envByte s u = { s with io := (envByte s u).io } := by
  unfold envByte
  split <;> rfl

theorem envBytes_eq (l : List (BitVec 7 × Byte)) (s : State) :
    l.foldl envByte s = { s with io := (l.foldl envByte s).io } := by
  induction l generalizing s with
  | nil => rfl
  | cons u l ih => rw [List.foldl_cons, ih, envByte_eq]

/-- An answer adds its requests to `IF` and changes device-owned bytes. -/
theorem applyAnswer_eq (e : EnvAnswer) (s : State) :
    applyAnswer e s = { s with ifr := s.ifr ||| requestMask e, io := (e.bytes.foldl envByte s).io } := by
  unfold applyAnswer
  rw [envBytes_eq]
  simp only [requestIf_eq, requestMask, BitVec.or_assoc]
  rfl

theorem envNotify_of_nil {s : State} (h : s.env = []) : envNotify s = s := by
  simp only [envNotify, h]

theorem envNotify_of_cons {s : State} {e : EnvAnswer} {rest : List EnvAnswer} (h : s.env = e :: rest) :
    envNotify s =
      { s with
        env := rest
        ifr := s.ifr ||| requestMask e
        io := (e.bytes.foldl envByte { s with env := rest }).io } := by
  simp only [envNotify, h, applyAnswer_eq]

/-- Setting bits clears none. -/
theorem or_and_self_left {w : Nat} (x m : BitVec w) : (x ||| m) &&& x = x := by
  ext i hi
  rw [BitVec.getElem_and, BitVec.getElem_or]
  cases x[i] <;> simp

theorem envByte_read_core (s : State) (u : BitVec 7 × Byte) {k : Nat} (hk : ioRegOf k ≠ .device k) :
    (envByte s u).io.read k = s.io.read k := by
  unfold envByte
  split
  · next j hj =>
    refine Memory.read_write_ne s.io u.2 fun hkj => hk ?_
    have hju := ioRegOf_device hj
    rwa [← hju, ← hkj] at hj
  · rfl

theorem envBytes_read_core (l : List (BitVec 7 × Byte)) (s : State) {k : Nat} (hk : ioRegOf k ≠ .device k) :
    (l.foldl envByte s).io.read k = s.io.read k := by
  induction l generalizing s with
  | nil => rfl
  | cons u l ih => rw [List.foldl_cons, ih, envByte_read_core s u hk]

/-! ## The timer and interrupt registers, and the bank selectors -/

theorem io_register (s : State) (v : Byte) {a : Word} {r : IoReg} (ha : regionOf a = .io)
    (hr : ioRegOf (a.toNat - 0xFF00) = r) : readByte s a = ioRead s r ∧ writeByte s a v = ioWrite s r v := by
  rw [readByte_io s ha, writeByte_io s v ha, hr]
  exact ⟨rfl, rfl⟩

/-- The timer selector, as a mask and as two bits. -/
theorem and_three_eq_iff (v w : Byte) : v &&& 0x03#8 = w &&& 0x03#8 ↔ v.setWidth 2 = w.setWidth 2 := by
  have hmask : ∀ x : Byte, x &&& 0x03#8 = (x.setWidth 2).setWidth 8 := by decide
  rw [hmask, hmask]
  refine ⟨fun h => ?_, fun h => by rw [h]⟩
  simpa using congrArg (BitVec.setWidth 2) h

theorem timerTick_acc_of_disabled {s : State} (h : s.timer.tac.getLsbD 2 = false) (c : Nat) :
    (timerTick c s).timer.acc = s.timer.acc := by
  simp only [timerTick, h, Bool.false_eq_true, if_false]

theorem vramIndex_eq (b : VramBanks) (k : BitVec 1) (a : Word) :
    vramIndex b k a = (if b = .two then k.toNat else 0) * 0x2000 + (a.toNat - 0x8000) := by
  unfold vramIndex
  cases b <;> simp only [if_true, reduceCtorEq, if_false]

theorem max_one_toNat (k : BitVec 3) : max 1 k.toNat = if k = 0#3 then 1 else k.toNat := by
  revert k
  decide

theorem wramIndex_eq (b : WramBanks) (k : BitVec 3) (a : Word) :
    wramIndex b k a =
      (if b = .eight then (if k = 0#3 then 1 else k.toNat) else 1) * 0x1000 + (a.toNat - 0xD000) := by
  unfold wramIndex
  cases b <;> simp only [if_true, reduceCtorEq, if_false, max_one_toNat]

/-! ## The halves of a word -/

theorem lo_eq (w : Word) : lo w = w.setWidth 8 := rfl

theorem hi_eq (w : Word) : hi w = (w >>> 8).setWidth 8 := rfl

/-! ## Cartridge banking -/

theorem gateOpen_eq (v : Byte) : gateOpen v = decide (v.toNat % 16 = 0xA) := by
  simp [gateOpen, BitVec.toNat_eq, Bool.beq_eq_decide_eq]

theorem notZero_setWidth (v : Byte) {w n : Nat} (hn : 2 ^ w = n) :
    notZero (v.setWidth w) = if v.toNat % n = 0 then 1#w else v.setWidth w := by
  subst hn
  simp only [notZero, BitVec.toNat_eq, BitVec.toNat_setWidth, BitVec.toNat_ofNat, Nat.zero_mod]

/-- A bit above a byte, as a number. -/
theorem append_byte (h : BitVec 1) (l : Byte) : h ++ l = BitVec.ofNat 9 (h.toNat * 256 + l.toNat) := by
  apply BitVec.eq_of_toNat_eq
  have hl := l.isLt
  have hh := h.isLt
  rw [BitVec.toNat_append, ← Nat.shiftLeft_add_eq_or_of_lt hl, Nat.shiftLeft_eq, BitVec.toNat_ofNat]
  omega

/-- MBC5's bank register in two halves (20_memory.md R122). -/
theorem append_low_byte (b : BitVec 9) (v : Byte) :
    b.extractLsb' 8 1 ++ v = BitVec.ofNat 9 (b.toNat / 256 * 256 + v.toNat) := by
  have hb := b.isLt
  have hbit : (b.extractLsb' 8 1).toNat = b.toNat / 256 := by
    rw [BitVec.extractLsb'_toNat, Nat.shiftRight_eq_div_pow]
    omega
  rw [append_byte, hbit]

theorem append_high_bit (b : BitVec 9) (v : Byte) :
    v.extractLsb' 0 1 ++ b.extractLsb' 0 8 = BitVec.ofNat 9 (v.toNat % 2 * 256 + b.toNat % 256) := by
  rw [append_byte, BitVec.extractLsb'_toNat, BitVec.extractLsb'_toNat]
  rfl

theorem ramTarget_of_gate {cart : Cart} (h : cart.gate = false) (c : Config) (a : Word) :
    ramTarget cart c a = .closed := by
  cases cart with
  | romOnly => rfl
  | mbc1 m | mbc3 m | mbc5 m => simp only [ramTarget, show m.ramEnable = false from h, Bool.false_eq_true, if_false]

theorem gate_control {cart : Cart} (hcart : cart ≠ .romOnly) {a : Word} (ha : a.toNat < 0x2000) (v : Byte) :
    (cart.control a v).gate = decide (v.toNat % 16 = 0xA) := by
  rw [← gateOpen_eq]
  cases cart with
  | romOnly => exact absurd rfl hcart
  | mbc1 m => simp only [Cart.control, Mbc1.control, ha, if_true, Cart.gate]
  | mbc3 m => simp only [Cart.control, Mbc3.control, ha, if_true, Cart.gate]
  | mbc5 m => simp only [Cart.control, Mbc5.control, ha, if_true, Cart.gate]

/-- The cartridge RAM window with a gate over a bank of `cram` of any size, none included (20_memory.md R116, R124). -/
theorem cartRam_gate_bank (s : State) (v : Byte) {a : Word} {gate : Bool} {bank : Nat} (ha : regionOf a = .cartRam)
    (ht : ramTarget s.cart s.cfg a = if gate then cramAt s.cfg bank a else .closed) :
    if gate = false ∨ s.cfg.cramSize = .none then readByte s a = 0xFF#8 ∧ writeByte s a v = s
    else
      let k := (bank * 0x2000 + (a.toNat - 0xA000)) % s.cfg.cramSize.bytes
      readByte s a = s.cram.read k ∧ writeByte s a v = { s with cram := s.cram.write k v } := by
  cases gate with
  | false =>
    rw [if_pos (.inl rfl)]
    exact cartRam_closed s v ha ht
  | true =>
    split
    · next hsize => exact cartRam_closed s v ha (ht.trans (cramAt_of_none (hsize.resolve_left nofun) bank a))
    · next hsize => exact cartRam_cram s v ha (ht.trans (cramAt_of_ne_none (not_or.1 hsize).2 bank a))

/-- The four cases of MBC3's RAM window (20_memory.md R120). -/
theorem ramTarget_mbc3 (m : Mbc3) (c : Config) (a : Word) :
    ramTarget (.mbc3 m) c a =
      if m.ramEnable = false then .closed
      else if 0x8 ≤ m.ramSel.toNat ∧ m.ramSel.toNat ≤ 0xC then .rtc (m.ramSel.toNat - 8)
      else if m.ramSel.toNat ≤ 0x3 ∧ c.cramSize ≠ .none then
        .cram ((m.ramSel.toNat * 0x2000 + (a.toNat - 0xA000)) % c.cramSize.bytes)
      else .closed := by
  have hbank : (if m.ramSel.toNat ≤ 0x3 then cramAt c m.ramSel.toNat a else .closed) =
      if m.ramSel.toNat ≤ 0x3 ∧ c.cramSize ≠ .none then
        .cram ((m.ramSel.toNat * 0x2000 + (a.toNat - 0xA000)) % c.cramSize.bytes)
      else RamTarget.closed := by
    by_cases hsize : c.cramSize = .none
    · rw [cramAt_of_none hsize, ite_self, if_neg fun h => h.2 hsize]
    · simp only [cramAt_of_ne_none hsize, hsize, ne_eq, not_false_eq_true, and_true]
  cases hopen : m.ramEnable with
  | false => simp only [ramTarget, hopen, Bool.false_eq_true, if_false, if_true]
  | true => simp only [ramTarget, hopen, if_true, Bool.true_eq_false, if_false, hbank]

end Sys2Proof.Machine

/-! The statements of 20_memory.md, settled. -/

namespace Sys2Proof.Machine

/-- Settles O15, from the read-back lemma of each row of the range table. -/
theorem storageReadsBack : Obligations.StorageReadsBack :=
  fun _ _ v hs hcart h => readByte_writeByte_self v hs hcart h

/-- Settles O16, from the frame of a bus write behind the bus and before it. -/
theorem busWriteFrame : Obligations.BusWriteFrame := by
  intro s x v
  obtain ⟨hregs, hf, hsp, hpc, hime, hpend, hhalted, hbug, hfault, hcfg, henv, hcost, hcycles⟩ :=
    writeByte_sameCpu s x v
  exact ⟨fun a h => readByte_writeByte_of_not_touched v h, hregs, hf, hsp, hpc, hime, hpend, hhalted, hbug, hfault, hcfg,
    henv, hcost, hcycles⟩

/-- Settles O20, by induction on the number of bytes copied. -/
theorem dmaCopies : Obligations.DmaCopies := by
  intro s v hs
  obtain ⟨hread, hwrite⟩ := io_register s v (a := 0xFF46#16) (r := .dma) (by decide) (by decide)
  simp only [hwrite]
  refine ⟨hread, ioWrite_dma s v, fun i hi => ?_⟩
  have hcopy := dmaFold_read v (s := { s with dma := v }) hs (Nat.le_refl 160) i
  rwa [if_pos hi] at hcopy

/-- Settles O57: an answer adds its requests, none of them source 2, and writes device-owned offsets alone. -/
theorem notificationScope : Obligations.NotificationScope := by
  intro s t
  cases henv : s.env with
  | nil =>
    have ht : t = s := envNotify_of_nil henv
    rw [ht]
    exact ⟨by rw [List.tail_nil, ← henv], BitVec.and_self, rfl, fun _ _ => rfl, fun _ => rfl⟩
  | cons e rest =>
    have ht : t = { s with env := rest, ifr := s.ifr ||| requestMask e, io := _ } := envNotify_of_cons henv
    have hcore : ∀ k ∈ [0x04, 0x05, 0x06, 0x07, 0x0F, 0x46, 0x4F, 0x70], ioRegOf k ≠ .device k := by decide
    rw [ht]
    refine ⟨rfl, or_and_self_left s.ifr (requestMask e), ?_,
      fun k hk => envBytes_read_core e.bytes { s with env := rest } (hcore k hk), nofun⟩
    rw [BitVec.getLsbD_or, requestMask_source2, Bool.or_false]

/-- Settles O58, from the bus writes of each instruction and the frame of each write. -/
theorem memoryFrame : Obligations.MemoryFrame := by
  intro i s t a h hx
  rcases exec_cases h with ⟨-, op, rfl⟩ | hc
  · exact AgreeAt.readByte_eq {}
  · exact readByte_busWrites hc.bus hx

/-- Settles O17, from the two discarding rows of the range table. -/
theorem echoAndUnusableRegions : Obligations.EchoAndUnusableRegions := by
  intro s a v h
  have hr : regionOf a = .echo ∨ regionOf a = .unusable :=
    h.imp (fun h => regionOf_echo h.1 (by omega)) (fun h => regionOf_unusable h.1 (by omega))
  exact ⟨readByte_discarded s hr, writeByte_discarded s v hr⟩

/-- Settles O18, register by register. -/
theorem timerAndInterruptRegisters : Obligations.TimerAndInterruptRegisters := by
  intro s v
  obtain ⟨hdiv, hdiv'⟩ := io_register s v (a := 0xFF04#16) (r := .div) (by decide) (by decide)
  obtain ⟨htima, htima'⟩ := io_register s v (a := 0xFF05#16) (r := .tima) (by decide) (by decide)
  obtain ⟨htma, htma'⟩ := io_register s v (a := 0xFF06#16) (r := .tma) (by decide) (by decide)
  obtain ⟨htac, htac'⟩ := io_register s v (a := 0xFF07#16) (r := .tac) (by decide) (by decide)
  obtain ⟨hifr, hifr'⟩ := io_register s v (a := 0xFF0F#16) (r := .ifr) (by decide) (by decide)
  have hie : regionOf 0xFFFF#16 = .ie := by decide
  have hselector : (s.timer.tac.setWidth 8).setWidth 2 = s.timer.tac.setWidth 2 := by simp
  refine ⟨hdiv, hdiv', htima, htima', htma, htma', htac, ?_, timerTick_acc_of_disabled, hifr, hifr', readByte_ie s hie,
    writeByte_ie s v hie, rfl⟩
  simp only [htac', ioWrite, and_three_eq_iff, hselector]

/-- Settles O19, from the two selectors' registers and the indexes of the two windows. -/
theorem bankSelectors : Obligations.BankSelectors := by
  intro s v
  obtain ⟨hvbk, hvbk'⟩ := io_register s v (a := 0xFF4F#16) (r := .vbk) (by decide) (by decide)
  obtain ⟨hsvbk, hsvbk'⟩ := io_register s v (a := 0xFF70#16) (r := .svbk) (by decide) (by decide)
  refine ⟨hvbk, hvbk', hsvbk, hsvbk', fun a hlo hhi => ?_, fun a hlo hhi => ?_⟩
  · have ha := regionOf_vram hlo hhi
    rw [← vramIndex_eq]
    exact ⟨readByte_vram s ha, writeByte_vram s v ha⟩
  · have ha := regionOf_wramBank hlo hhi
    rw [← wramIndex_eq]
    exact ⟨readByte_wramBank s ha, writeByte_wramBank s v ha⟩

/-- Settles O21: without a gate, or with a closed one, nothing stands behind the RAM window. -/
theorem romOnlyAndRamGate : Obligations.RomOnlyAndRamGate := by
  have hclosed : ∀ (s : State) (a : Word) (v : Byte), s.cart.gate = false → 0xA000 ≤ a.toNat → a.toNat < 0xC000 →
      readByte s a = 0xFF#8 ∧ writeByte s a v = s :=
    fun s a v hgate hlo hhi => cartRam_closed s v (regionOf_cartRam hlo hhi) (ramTarget_of_gate hgate s.cfg a)
  refine ⟨fun s hs => ⟨fun a ha => ?_, fun a v ha => ?_, fun a v => hclosed s a v (by rw [hs]; rfl)⟩,
    fun s a v hs ha => ?_, hclosed⟩
  · rw [readByte_rom ha, hs, romOffset]
  · rw [writeByte_rom s v (regionOf_rom ha), hs, Cart.control, ← hs]
  · rw [writeByte_rom s v (regionOf_rom (by omega))]
    exact gate_control hs ha v

/-- Settles O22: the control writes, the two ROM windows and the RAM window of an MBC1. -/
theorem mbc1Banking : Obligations.Mbc1Banking := by
  intro s m hm
  refine ⟨fun a v ha => ?_, fun a ha => ?_, fun a hlo hhi => ?_, fun a v hlo hhi => ?_⟩
  · rw [writeByte_rom s v (regionOf_rom ha), hm, Cart.control, Mbc1.control, gateOpen_eq,
      notZero_setWidth v (n := 32) rfl]
  · rw [readByte_rom (by omega), hm, romOffset, if_pos ha]
  · rw [readByte_rom hhi, hm, romOffset, if_neg (by omega)]
  · have ha := regionOf_cartRam hlo hhi
    exact cartRam_gate_bank s v ha (by rw [hm]; rfl)

/-- Settles O23: the control writes, the two ROM windows, and the RAM window's four cases of an MBC3. -/
theorem mbc3Banking : Obligations.Mbc3Banking := by
  intro s m hm
  refine ⟨fun a v ha => ?_, fun a ha => ?_, fun a hlo hhi => ?_, fun a v hlo hhi => ?_⟩
  · rw [writeByte_rom s v (regionOf_rom ha), hm, Cart.control, Mbc3.control, gateOpen_eq,
      notZero_setWidth v (n := 128) rfl]
  · rw [readByte_rom (by omega), hm, romOffset, if_pos ha]
  · rw [readByte_rom hhi, hm, romOffset, if_neg (by omega)]
  · have ha := regionOf_cartRam hlo hhi
    have ht := ramTarget_mbc3 m s.cfg a
    rw [← hm] at ht
    split at ht
    · next hgate => rw [if_pos hgate]; exact cartRam_closed s v ha ht
    · next hgate =>
      rw [if_neg hgate]
      split at ht
      · next hclock =>
        rw [if_pos hclock]
        have h := cartRam_rtc s v ha ht
        rwa [hm] at h
      · next hclock =>
        rw [if_neg hclock]
        split at ht
        · next hbank => rw [if_pos hbank]; exact cartRam_cram s v ha ht
        · next hbank => rw [if_neg hbank]; exact cartRam_closed s v ha ht

/-- Settles O24: the control writes, the two ROM windows and the RAM window of an MBC5. -/
theorem mbc5Banking : Obligations.Mbc5Banking := by
  intro s m hm
  refine ⟨fun a v ha => ?_, fun a ha => ?_, fun a hlo hhi => ?_, fun a v hlo hhi => ?_⟩
  · rw [writeByte_rom s v (regionOf_rom ha), hm, Cart.control, Mbc5.control, gateOpen_eq, append_low_byte,
      append_high_bit]
  · rw [readByte_rom (by omega), hm, romOffset, if_pos ha]
  · rw [readByte_rom hhi, hm, romOffset, if_neg (by omega)]
  · have ha := regionOf_cartRam hlo hhi
    exact cartRam_gate_bank s v ha (by rw [hm]; rfl)

/-- Settles O25: a word access is its two byte accesses, and a push is a word write at the decremented `SP`. -/
theorem wordAccessAndPush : Obligations.WordAccessAndPush := by
  intro s a v
  have hword : ∀ (u : State) (x : Word), writeWord u x v =
      writeByte (writeByte u x (v.setWidth 8)) (x + 1#16) ((v >>> 8).setWidth 8) := by
    intro u x
    rw [writeWord, lo_eq, hi_eq]
  exact ⟨rfl, hword s a, (push16_eq v s).trans (hword _ _)⟩

end Sys2Proof.Machine

/-! SUPPORT. The decoder and the encoder against each other: the decoding of an encoding, the bytes of what was decoded,
and the first bytes without a handler (30_encoding.md R142 to R154). -/

namespace Sys2Proof.Machine

/-! ## Words in stream order -/

theorem lo_join (h l : Byte) : lo (join h l) = l := BitVec.extractLsb'_append_eq_right

theorem hi_join (h l : Byte) : hi (join h l) = h := BitVec.extractLsb'_append_eq_left

theorem join_hi_lo (w : Word) : join (hi w) (lo w) = w :=
  (BitVec.extractLsb'_append_extractLsb'_eq_extractLsb' rfl).trans BitVec.extractLsb'_eq_self

/-! ## Decoding an encoding -/

/-- An opcode byte with all its operand bytes decodes to what the opcode selects of the stream. -/
theorem decode_append {op : Byte} {operands rest : List Byte} {i : Instr} (hlen : lengthOf op = operands.length + 1)
    (hi : decodeBytes op ((operands ++ rest).getD 0 0x00#8) ((operands ++ rest).getD 1 0x00#8) = i) :
    decode (op :: operands ++ rest) = .ok (i, rest) := by
  simp [decode, hlen, ← hi]

/-- The formats with a word operand, low byte first (30_encoding.md R142). -/
theorem decode_word {op : Byte} {v : Word} {f : Word → Instr} {rest : List Byte} (hlen : lengthOf op = 3)
    (hf : ∀ b1 b2, decodeBytes op b1 b2 = f (join b2 b1)) : decode ([op, lo v, hi v] ++ rest) = .ok (f v, rest) :=
  decode_append hlen ((hf (lo v) (hi v)).trans (congrArg f (join_hi_lo v)))

/-! ## Encoding what was decoded -/

theorem lengthOf_bounds (b0 : Byte) : 1 ≤ lengthOf b0 ∧ lengthOf b0 ≤ 3 := by
  unfold lengthOf
  split
  · decide
  · split <;> decide

theorem encode_decodeSecondary (op2 : Byte) : encode (decodeSecondary op2) = [0xCB#8, op2] := by
  revert op2; decide

/-- A row or a column of an opcode grid. -/
theorem nibble_cases {n : Nat} (h : n < 16) :
    n = 0 ∨ n = 1 ∨ n = 2 ∨ n = 3 ∨ n = 4 ∨ n = 5 ∨ n = 6 ∨ n = 7 ∨ n = 8 ∨ n = 9 ∨ n = 10 ∨ n = 11 ∨ n = 12 ∨
      n = 13 ∨ n = 14 ∨ n = 15 := by
  omega

theorem exists_row_column (b : Byte) : ∃ y x, y < 16 ∧ x < 16 ∧ b = BitVec.ofNat 8 (16 * y + x) := by
  have hb := b.isLt
  refine ⟨b.toNat / 16, b.toNat % 16, by omega, by omega, ?_⟩
  rw [Nat.div_add_mod, BitVec.ofNat_toNat, BitVec.setWidth_eq]

/-- The rows of the primary grid, one by one: the encoder writes the opcode and the operand bytes, STOP's as 0x00, and
takes a word operand apart again. -/
theorem encode_decodeBytes_rows (b0 b1 b2 : Byte) :
    encode (decodeBytes b0 b1 b2) =
      if b0 = 0xCB#8 then encode (decodeSecondary b1)
      else
        [b0, if lengthOf b0 = 3 then lo (join b2 b1) else if b0 = 0x10#8 then 0x00#8 else b1, hi (join b2 b1)].take
          (lengthOf b0) := by
  obtain ⟨y, x, hy, hx, rfl⟩ := exists_row_column b0
  rcases nibble_cases hy with
    rfl | rfl | rfl | rfl | rfl | rfl | rfl | rfl | rfl | rfl | rfl | rfl | rfl | rfl | rfl | rfl <;>
  rcases nibble_cases hx with
    rfl | rfl | rfl | rfl | rfl | rfl | rfl | rfl | rfl | rfl | rfl | rfl | rfl | rfl | rfl | rfl <;>
  rfl

/-- The encoding of what was decoded is the bytes it was decoded from; the second byte of STOP is ignored
(30_encoding.md R142, 46_cpu_control.md R324). -/
theorem encode_decodeBytes (b0 b1 b2 : Byte) :
    encode (decodeBytes b0 b1 b2) = [b0, if b0 = 0x10#8 then 0x00#8 else b1, b2].take (lengthOf b0) := by
  rw [encode_decodeBytes_rows, lo_join, hi_join]
  by_cases hcb : b0 = 0xCB#8
  · subst hcb
    exact encode_decodeSecondary b1
  · rw [if_neg hcb]
    by_cases hstop : b0 = 0x10#8
    · subst hstop
      rfl
    · rw [if_neg hstop, ite_self]

theorem length_decodeBytes (b0 b1 b2 : Byte) : (decodeBytes b0 b1 b2).length = lengthOf b0 := by
  rw [Instr.length, encode_decodeBytes, List.length_take]
  exact Nat.min_eq_left (lengthOf_bounds b0).2

/-- The encoding of what was decoded begins with the opcode it was decoded from. -/
theorem head_encode_decodeBytes (b0 b1 b2 : Byte) : (encode (decodeBytes b0 b1 b2)).head? = some b0 := by
  rw [encode_decodeBytes, List.head?_take, if_neg (Nat.ne_of_gt (lengthOf_bounds b0).1), List.head?_cons]

/-- The one ill-formed term is that of byte 0xCB (46_cpu_control.md R327). -/
theorem exists_eq_prefixCb {i : Instr} (h : WellFormed i = false) : ∃ op2, i = .prefixCb op2 := by
  unfold WellFormed at h
  split at h
  · exact ⟨_, rfl⟩
  · cases h

theorem wellFormed_decodeSecondary (op2 : Byte) : WellFormed (decodeSecondary op2) = true := by
  revert op2; decide

/-- An ill-formed term begins with byte 0xCB, and there the decoder reads an instruction of the secondary table. -/
theorem wellFormed_decodeBytes (b0 b1 b2 : Byte) : WellFormed (decodeBytes b0 b1 b2) = true := by
  cases hwf : WellFormed (decodeBytes b0 b1 b2) with
  | true => rfl
  | false =>
    obtain ⟨op2, hi⟩ := exists_eq_prefixCb hwf
    have hhead := head_encode_decodeBytes b0 b1 b2
    rw [hi] at hhead
    cases hhead
    exact hwf.symm.trans (wellFormed_decodeSecondary b1)

/-- Everything the decoder can answer. -/
theorem decode_cases {bytes rest : List Byte} {i : Instr} (h : decode bytes = .ok (i, rest)) :
    ∃ b0 tail, bytes = b0 :: tail ∧ lengthOf b0 ≤ tail.length + 1 ∧
      i = decodeBytes b0 (tail.getD 0 0x00#8) (tail.getD 1 0x00#8) ∧ rest = tail.drop (lengthOf b0 - 1) := by
  unfold decode at h
  split at h
  · cases h
  · next b0 tail =>
    split at h
    · cases h
    · next hlen =>
      cases h
      exact ⟨b0, tail, rfl, Nat.not_lt.1 hlen, rfl, rfl⟩

/-- The bytes read and the bytes left over make up the stream. -/
theorem take_append_drop_stream {n : Nat} {tail : List Byte} (b0 : Byte) (hlo : 1 ≤ n) (hhi : n ≤ 3)
    (hn : n ≤ tail.length + 1) :
    [b0, tail.getD 0 0x00#8, tail.getD 1 0x00#8].take n ++ tail.drop (n - 1) = b0 :: tail := by
  match n, tail with
  | 1, _ => rfl
  | 2, _ :: _ => rfl
  | 3, _ :: _ :: _ => rfl
  | 2, [] | 3, [] | 3, [_] => simp at hn

/-! ## The first bytes without a handler -/

/-- The twelve opcode bytes of 30_encoding.md R152, as numbers. -/
def unhandledOpcodes : List Nat := unimplemented.map fun p => p.1.toNat

/-- Whether an instruction raises is seen at the first byte of its encoding. -/
theorem raises_eq_opcode (i : Instr) : raises i = (encode i).head?.any (unhandledOpcodes.contains ·.toNat) := by
  cases i <;> rfl

theorem raises_decodeBytes (b0 b1 b2 : Byte) :
    raises (decodeBytes b0 b1 b2) = unhandledOpcodes.contains b0.toNat := by
  rw [raises_eq_opcode, head_encode_decodeBytes, Option.any_some]

/-- A machine without a fault has one after an instruction exactly if the instruction raises. -/
theorem fault_isSome_eq_raises {i : Instr} {s t : State} (hf : s.fault = none) (h : exec i s = .next t) :
    t.fault.isSome = raises i := by
  rcases exec_cases h with hr | hc
  · rw [hr.fault_isSome, hr.1]
  · rw [hc.fault_eq, hf, hc.1, Option.isSome_none]

/-! ## The secondary table by its fields -/

/-- The instruction that the fields `x`, `y` and the operand of a second byte select, no register being the byte at HL
(30_encoding.md R150). -/
def secondaryOfFields (x : Nat) (y : BitVec 3) (t : Option Reg8) : Instr :=
  match x, t with
  | 0, some t => Fam.rotR (rotOpOfField y) t
  | 0, none => Fam.rotHl (rotOpOfField y)
  | 1, some t => Fam.bitR y t
  | 1, none => Fam.bitHl y
  | 2, some t => Fam.resR y t
  | 2, none => Fam.resHl y
  | _, some t => Fam.setR y t
  | _, none => Fam.setHl y

theorem decodeSecondary_eq_fields (op2 : Byte) :
    decodeSecondary op2 =
      secondaryOfFields (op2.extractLsb' 6 2).toNat (op2.extractLsb' 3 3) (reg8OfField (op2.extractLsb' 0 3)) := by
  revert op2; decide

theorem exec_rotR (op : RotOp) (t : Reg8) (s : State) : exec (Fam.rotR op t) s = retire 2 8 (rotR op t) s := by
  cases op <;> cases t <;> rfl

theorem exec_rotHl (op : RotOp) (s : State) : exec (Fam.rotHl op) s = retire 2 16 (rotHl op) s := by
  cases op <;> rfl

/-- What holds of each of the eight bit numbers holds of all. -/
theorem bitNumber_cases {P : BitVec 3 → Prop} (b0 : P 0#3) (b1 : P 1#3) (b2 : P 2#3) (b3 : P 3#3) (b4 : P 4#3)
    (b5 : P 5#3) (b6 : P 6#3) (b7 : P 7#3) (b : BitVec 3) : P b := by
  have hb : ∀ b : BitVec 3, b = 0#3 ∨ b = 1#3 ∨ b = 2#3 ∨ b = 3#3 ∨ b = 4#3 ∨ b = 5#3 ∨ b = 6#3 ∨ b = 7#3 := by decide
  obtain rfl | rfl | rfl | rfl | rfl | rfl | rfl | rfl := hb b <;> assumption

section
variable (b : BitVec 3) (t : Reg8) (s : State)

theorem exec_bitR : exec (Fam.bitR b t) s = retire 2 8 (bitR b t) s := by
  cases b using bitNumber_cases <;> cases t <;> rfl

theorem exec_bitHl : exec (Fam.bitHl b) s = retire 2 12 (bitHl b) s := by
  cases b using bitNumber_cases <;> rfl

theorem exec_resR : exec (Fam.resR b t) s = retire 2 8 (resR b t) s := by
  cases b using bitNumber_cases <;> cases t <;> rfl

theorem exec_resHl : exec (Fam.resHl b) s = retire 2 16 (resHl b) s := by
  cases b using bitNumber_cases <;> rfl

theorem exec_setR : exec (Fam.setR b t) s = retire 2 8 (setR b t) s := by
  cases b using bitNumber_cases <;> cases t <;> rfl

theorem exec_setHl : exec (Fam.setHl b) s = retire 2 16 (setHlBit b) s := by
  cases b using bitNumber_cases <;> rfl

end

/-- The handler of byte 0xCB runs the instruction of the secondary table (46_cpu_control.md R327). -/
theorem exec_prefixCb (op2 : Byte) (s : State) : exec (.prefixCb op2) s = exec (decodeSecondary op2) s := by
  rw [decodeSecondary_eq_fields]
  change runSecondary op2 s = _
  unfold runSecondary
  generalize (op2.extractLsb' 6 2).toNat = x
  generalize op2.extractLsb' 3 3 = y
  match x, reg8OfField (op2.extractLsb' 0 3) with
  | 0, some t => exact (exec_rotR _ t s).symm
  | 0, none => exact (exec_rotHl _ s).symm
  | 1, some t => exact (exec_bitR y t s).symm
  | 1, none => exact (exec_bitHl y s).symm
  | 2, some t => exact (exec_resR y t s).symm
  | 2, none => exact (exec_resHl y s).symm
  | _ + 3, some t => exact (exec_setR y t s).symm
  | _ + 3, none => exact (exec_setHl y s).symm

end Sys2Proof.Machine

/-! SUPPORT. The master-enable latch across an instruction and across the phantom step (60_exceptions.md R358). -/

namespace Sys2Proof.Machine

/-! ## Operations that leave the latch alone -/

/-- `u` has IME and `ime_pending` of `s`. -/
def SameEnable (u s : State) : Prop := u.ime = s.ime ∧ u.imePending = s.imePending

theorem sameEnable_writeByte (s : State) (a : Word) (v : Byte) : SameEnable (writeByte s a v) s :=
  ⟨writeByte_ime s a v, writeByte_imePending s a v⟩

theorem sameEnable_writeWord (s : State) (a v : Word) : SameEnable (writeWord s a v) s :=
  ⟨writeWord_ime s a v, writeWord_imePending s a v⟩

theorem sameEnable_push16 (v : Word) (s : State) : SameEnable (push16 v s) s :=
  ⟨push16_ime v s, push16_imePending v s⟩

theorem sameEnable_ite {c : Bool} {u s : State} (h : SameEnable u s) : SameEnable (if c then u else s) s := by
  cases c
  · exact ⟨rfl, rfl⟩
  · exact h

theorem sameEnable_halt (promote : Bool) (s : State) : SameEnable (halt promote s) s := by
  unfold halt
  split <;> exact ⟨rfl, rfl⟩

/-! ## Instructions -/

/-- The instructions that set or clear the latch, and those that raise. -/
def writesEnable : Instr → Bool
  | .ei | .reti | .di => true
  | i => raises i

theorem writesEnable_eq_false {i : Instr} (hset : ¬ (i = .ei ∨ i = .reti)) (hdi : i ≠ .di)
    (hr : ¬ raises i = true) : writesEnable i = false := by
  unfold writesEnable
  split
  · exact absurd (.inl rfl) hset
  · exact absurd (.inr rfl) hset
  · exact absurd rfl hdi
  · exact eq_false_of_ne_true hr

/-- The latch sampled at the start of the step goes into IME, and the Operation adds nothing to that
(30_encoding.md R140). -/
def Promotes (i : Instr) (s : State) : Prop :=
  ∃ k u, exec i s = .next (finishStep s.imePending k u) ∧ SameEnable u { s with imePending := false }

theorem promotes_retire {i : Instr} {s : State} {len k : Nat} {body : State → State}
    (h : exec i s = retire len k body s) (hb : SameEnable (body (beginStep len s)) (beginStep len s)) :
    Promotes i s :=
  ⟨k, _, h, hb⟩

theorem promotes_of_wellFormed {i : Instr} (s : State) (hwf : WellFormed i = true) (h : writesEnable i = false) :
    Promotes i s := by
  cases i with
  | ei | reti | di | stop | illegalD3 | illegalDB | illegalDD | illegalE3 | illegalE4 | illegalEB | illegalEC
    | illegalED | illegalF4 | illegalFC | illegalFD => cases h
  | prefixCb => cases hwf
  | ldIndBcA | ldIndDeA | ldIndHlD8 | ldIndHlB | ldIndHlC | ldIndHlD | ldIndHlE | ldIndHlH | ldIndHlL | ldIndHlA
    | ldhIndA8A | ldhIndCA | ldIndA16A | ldIndHlIncA | ldIndHlDecA | incIndHl | decIndHl | rlcIndHl | rrcIndHl | rlIndHl
    | rrIndHl | slaIndHl | sraIndHl | swapIndHl | srlIndHl | res0IndHl | res1IndHl | res2IndHl | res3IndHl | res4IndHl
    | res5IndHl | res6IndHl | res7IndHl | set0IndHl | set1IndHl | set2IndHl | set3IndHl | set4IndHl | set5IndHl
    | set6IndHl | set7IndHl =>
    exact promotes_retire rfl (sameEnable_writeByte _ _ _)
  | ldIndA16Sp => exact promotes_retire rfl (sameEnable_writeWord _ _ _)
  | pushBc | pushDe | pushHl | pushAf | rst00 | callA16 | rst08 | rst10 | rst18 | rst20 | rst28 | rst30 | rst38 =>
    exact promotes_retire rfl (sameEnable_push16 _ _)
  | callNzA16 | callZA16 | callNcA16 | callCA16 =>
    exact promotes_retire rfl (sameEnable_ite (sameEnable_push16 _ _))
  | jrNzE8 | jrZE8 | jrNcE8 | jrCE8 | retNz | retZ | retNc | retC | jpNzA16 | jpZA16 | jpNcA16 | jpCA16 =>
    exact promotes_retire rfl (sameEnable_ite ⟨rfl, rfl⟩)
  | halt => exact promotes_retire rfl (sameEnable_halt _ _)
  | _ => exact promotes_retire rfl ⟨rfl, rfl⟩

/-- Every instruction but those that write the latch or raise promotes it; the term of byte 0xCB does what the
instruction does that it dispatches to. -/
theorem promotes_of_not_writesEnable {i : Instr} (s : State) (h : writesEnable i = false) : Promotes i s := by
  cases hwf : WellFormed i with
  | true => exact promotes_of_wellFormed s hwf h
  | false =>
    have hsecondary : ∀ op2 : Byte, writesEnable (decodeSecondary op2) = false := by decide
    obtain ⟨op2, rfl⟩ := exists_eq_prefixCb hwf
    rw [Promotes, exec_prefixCb]
    exact promotes_of_wellFormed s (wellFormed_decodeSecondary op2) (hsecondary op2)

theorem Promotes.latch_eq {i : Instr} {s t : State} (h : Promotes i s) (ht : exec i s = .next t) :
    t.ime = (s.ime || s.imePending) ∧ t.imePending = false := by
  obtain ⟨k, u, hu, hime, hpend⟩ := h
  cases hu.symm.trans ht
  exact ⟨congrArg (· || s.imePending) hime, hpend⟩

/-! ## The phantom step -/

theorem timaIncrements_phantomStep (n : Nat) (s : State) :
    timaIncrements n (phantomStep s) = phantomStep (timaIncrements n s) := by
  have hone : ∀ s, timaIncrement (phantomStep s) = phantomStep (timaIncrement s) := by
    intro s
    rw [timaIncrement, timaIncrement, apply_ite phantomStep]
    rfl
  induction n generalizing s with
  | zero => rfl
  | succ n ih => rw [timaIncrements, timaIncrements, hone, ih]

theorem timerTick_phantomStep (k : Nat) (s : State) :
    timerTick k (phantomStep s) = phantomStep (timerTick k s) := by
  unfold timerTick
  rw [apply_ite phantomStep, ← timaIncrements_phantomStep]
  rfl

/-- The cost reported does not show in what is pending after a notification. -/
theorem pending_envNotify_phantomStep (s : State) : pending (envNotify (phantomStep s)) = pending (envNotify s) := by
  cases h : s.env with
  | nil => rw [envNotify_of_nil h, envNotify_of_nil (s := phantomStep s) h]; rfl
  | cons e rest => rw [envNotify_of_cons h, envNotify_of_cons (s := phantomStep s) h]; rfl

theorem interruptStep_of_not_pending {s : State} (h : pending s = 0#5) : interruptStep s = (s, none) := if_pos h

end Sys2Proof.Machine

/-! The statements of 30_encoding.md, and of the latches it names, settled. -/

namespace Sys2Proof.Machine

/-- Settles O1: an encoding is an opcode byte with all its operand bytes; a word operand is put together again. -/
theorem decodeOfEncode : Obligations.DecodeOfEncode := by
  intro i rest hwf
  cases i with
  | prefixCb => cases hwf
  | ldBcD16 | ldIndA16Sp | ldDeD16 | ldHlD16 | ldSpD16 | jpNzA16 | jpA16 | callNzA16 | jpZA16 | callZA16 | callA16
    | jpNcA16 | callNcA16 | jpCA16 | callCA16 | ldIndA16A | ldAIndA16 => exact decode_word rfl fun _ _ => rfl
  | _ =>
    refine decode_append rfl ?_
    simp only [List.nil_append, List.cons_append, List.getD_cons_zero]
    rfl

/-- Settles O2: the encoder writes the bytes that the decoder took from the stream. -/
theorem encodeOfDecode : Obligations.EncodeOfDecode := by
  intro bytes i rest h
  obtain ⟨b0, tail, rfl, hlen, rfl, rfl⟩ := decode_cases h
  obtain ⟨hlo, hhi⟩ := lengthOf_bounds b0
  refine ⟨wellFormed_decodeBytes _ _ _, ?_, fun hne => ?_⟩
  · rw [length_decodeBytes, List.length_drop, List.length_cons]
    omega
  · have hstop : b0 ≠ 0x10#8 := by rintro rfl; exact hne rfl
    rw [encode_decodeBytes, if_neg hstop, take_append_drop_stream b0 hlo hhi hlen]

/-- Settles O4: every instruction answers, and raises exactly if its first byte has no handler. -/
theorem onlyTheTwelveBytesRaise : Obligations.OnlyTheTwelveBytesRaise := by
  intro b0 b1 b2 s hf
  obtain ⟨t, ht, -⟩ := exec_answers (decodeBytes b0 b1 b2) s
  refine ⟨t, ht, ?_⟩
  rw [fault_isSome_eq_raises hf ht, raises_decodeBytes, List.contains_iff_mem]
  rfl

/-- Settles O52, from the fields of the second byte. -/
theorem prefixByteDispatches : Obligations.PrefixByteDispatches := by
  intro op2 b2 s
  obtain ⟨t, ht, hr | hc⟩ := exec_answers (.prefixCb op2) s
  · cases hr.1
  · exact ⟨rfl, t, ht, (exec_prefixCb op2 s).symm.trans ht, hc.fault_eq⟩

/-- Settles O54: EI, RETI and DI by evaluation, every other instruction by what it promotes or that it raises. -/
theorem enableLatch : Obligations.EnableLatch := by
  refine ⟨fun _ => ⟨rfl, rfl⟩, fun i s t h => ?_, fun s => ?_, fun s t hf hh hp h => ?_⟩
  · split
    · next hset => rcases hset with rfl | rfl <;> cases Host.Outcome.next.inj h <;> exact ⟨rfl, rfl⟩
    next hset =>
    split
    · next hdi =>
      subst hdi
      cases Host.Outcome.next.inj h
      exact ⟨rfl, rfl⟩
    next hdi =>
    split
    · next hr =>
      rcases exec_cases h with ⟨-, op, rfl⟩ | hc
      · exact ⟨rfl, rfl⟩
      · cases hr.symm.trans hc.1
    · next hr => exact (promotes_of_not_writesEnable s (writesEnable_eq_false hset hdi hr)).latch_eq h
  · rcases interruptStep_cases s with ⟨-, hs⟩ | ⟨-, -, hs⟩ | ⟨-, -, hs⟩ <;> rw [hs]
    · exact ⟨rfl, rfl⟩
    · exact ⟨rfl, rfl⟩
    · exact ⟨dispatchInterrupt_imePending _ _, dispatchInterrupt_ime _ _⟩
  · cases (step_halted hf hh).symm.trans h
    have hidle : pending (envNotify (timerTick 4 (phantomStep s))) = 0#5 := by
      rw [timerTick_phantomStep, pending_envNotify_phantomStep, hp]
    have hs := interruptStep_of_not_pending hidle
    simp [afterCpuStep, hs]

/-- Settles O5, byte by byte. -/
theorem unimplementedBytesRaise : Obligations.UnimplementedBytesRaise := by
  intro p hp
  simp only [unimplemented, List.mem_cons, List.not_mem_nil, or_false] at hp
  rcases hp with rfl | rfl | rfl | rfl | rfl | rfl | rfl | rfl | rfl | rfl | rfl | rfl <;>
  exact ⟨⟨rfl, fun _ _ => rfl⟩, fun _ => rfl⟩

/-- Settles O6: the three bytes that the fetch reads are those decoded. -/
theorem stepRunsDecodedInstruction : Obligations.StepRunsDecodedInstruction := by
  intro s i rest t hf hh hdecode ht
  obtain ⟨b0, tail, hbytes, -, hi, -⟩ := decode_cases hdecode
  cases hbytes
  have hnext : operandPc s + 1#16 = if s.haltBug then s.pc + 1#16 else s.pc + 2#16 := by
    unfold operandPc
    split
    · rfl
    · bv_omega
  have hfetch : fetchInstr s = i := by rw [hi, fetchInstr, hnext]; rfl
  exact step_running hf hh (hfetch ▸ ht)

/-- Settles O7. -/
theorem haltedStep : Obligations.HaltedStep := fun _ hf hh => step_halted hf hh

end Sys2Proof.Machine

/-! SUPPORT. What a load or a store of one byte does as a whole CPU step, and the families of the 8-bit loads by their
operands (40_load8.md R170 to R188). -/

namespace Sys2Proof.Machine

/-! ## A byte loaded or stored, and the step around it -/

/-- A load within the frame of a step: the bus read does not see what the start of the step changes. -/
theorem finish_load (len k : Nat) (s : State) (rd : Reg8) (a : Word) :
    finishStep s.imePending k (setR8 rd (readByte (beginStep len s) a) (beginStep len s)) =
      { retired len k s with regs := s.regs.set rd (readByte s a) } := by
  rw [readByte_beginStep]
  rfl

/-- A load whose destination, address, length and cost `exec` shows. -/
theorem exec_load {i : Instr} {s : State} (len k : Nat) (rd : Reg8) (a : Word)
    (h : exec i s = .next (finishStep s.imePending k (setR8 rd (readByte (beginStep len s) a) (beginStep len s)))) :
    exec i s = .next { retired len k s with regs := s.regs.set rd (readByte s a) } :=
  h.trans (congrArg Host.Outcome.next (finish_load len k s rd a))

/-- A store whose address, byte, length and cost `exec` shows. -/
theorem exec_store {i : Instr} {s : State} (len k : Nat) (a : Word) (v : Byte)
    (h : exec i s = .next (finishStep s.imePending k (writeByte (beginStep len s) a v))) :
    exec i s = .next (writeByte (retired len k s) a v) :=
  h.trans (congrArg Host.Outcome.next (finish_writeByte len k s a v))

/-- The load that steps HL to `w`: the byte comes from the old address (40_load8.md R185, R187). -/
theorem retire_loadAStep {k w : Word} {s : State} (hw : hl s + k = w) :
    retire 1 8 (loadAStep k) s =
      .next { retired 1 8 s with regs := { s.regs with a := readByte s (hl s), h := hi w, l := lo w } } := by
  subst hw
  exact congrArg (fun u => Host.Outcome.next (setHl (hl s + k) u)) (finish_load 1 8 s .a (hl s))

/-- The store that steps HL to `w`: the bus write leaves the register file alone (40_load8.md R186, R188). -/
theorem retire_storeAStep {k w : Word} {s : State} (hw : hl s + k = w) :
    retire 1 8 (storeAStep k) s =
      .next { writeByte (retired 1 8 s) (hl s) s.regs.a with regs := { s.regs with h := hi w, l := lo w } } := by
  subst hw
  refine (congrArg (fun u => Host.Outcome.next (setHl (hl s + k) u)) (finish_writeByte 1 8 s (hl s) s.regs.a)).trans ?_
  rw [setHl, writeByte_regs]
  rfl

/-! ## The families by their operands -/

theorem encoded_ldRR (rd r : Reg8) : Encoded (0b01#2 ++ rd.code ++ r.code) 1 (fun _ _ => Fam.ldRR rd r) := by
  cases rd <;> cases r <;> exact ⟨rfl, fun _ _ => rfl⟩

theorem encoded_ldRD8 (rd : Reg8) : Encoded (0b00#2 ++ rd.code ++ 0b110#3) 2 (fun b1 _ => Fam.ldRD8 rd b1) := by
  cases rd <;> exact ⟨rfl, fun _ _ => rfl⟩

theorem encoded_ldRHl (rd : Reg8) : Encoded (0b01#2 ++ rd.code ++ 0b110#3) 1 (fun _ _ => Fam.ldRHl rd) := by
  cases rd <;> exact ⟨rfl, fun _ _ => rfl⟩

theorem encoded_ldHlR (r : Reg8) : Encoded (0b01110#5 ++ r.code) 1 (fun _ _ => Fam.ldHlR r) := by
  cases r <;> exact ⟨rfl, fun _ _ => rfl⟩

theorem exec_ldRR (rd r : Reg8) (s : State) : exec (Fam.ldRR rd r) s = retire 1 4 (ldRR rd r) s := by
  cases rd <;> cases r <;> rfl

theorem exec_ldRD8 (rd : Reg8) (v : Byte) (s : State) : exec (Fam.ldRD8 rd v) s = retire 2 8 (setR8 rd v) s := by
  cases rd <;> rfl

theorem exec_ldRHl (rd : Reg8) (s : State) : exec (Fam.ldRHl rd) s = retire 1 8 (ldRHl rd) s := by
  cases rd <;> rfl

theorem exec_ldHlR (r : Reg8) (s : State) : exec (Fam.ldHlR r) s = retire 1 8 (ldHlR r) s := by
  cases r <;> rfl

end Sys2Proof.Machine

/-! The statements of 40_load8.md settled. -/

namespace Sys2Proof.Machine

/-- Settles O27: a register load is the one write to the register file. -/
theorem registerLoads : Obligations.RegisterLoads :=
  ⟨fun rd r s => ⟨encoded_ldRR rd r, exec_ldRR rd r s⟩,
    fun rd v s => ⟨encoded_ldRD8 rd, exec_ldRD8 rd v s⟩,
    Regs.get_set⟩

/-- Settles O28: the address is taken from the register file before the write. -/
theorem memoryLoads : Obligations.MemoryLoads := by
  refine ⟨fun rd s => ⟨encoded_ldRHl rd, ?_⟩, fun s => ⟨⟨rfl, fun _ _ => rfl⟩, ?_⟩, fun s => ⟨⟨rfl, fun _ _ => rfl⟩, ?_⟩,
    fun a s => ⟨⟨rfl, fun _ _ => rfl⟩, ?_⟩, fun s => ⟨⟨rfl, fun _ _ => rfl⟩, ?_⟩, fun n s => ⟨⟨rfl, fun _ _ => rfl⟩, ?_⟩⟩
  · exact exec_load 1 8 rd (hl s) (exec_ldRHl rd s)
  · exact exec_load 1 8 .a (bc s) rfl
  · exact exec_load 1 8 .a (de s) rfl
  · exact exec_load 3 16 .a a rfl
  · exact exec_load 1 8 .a (highPage s.regs.c) rfl
  · exact exec_load 2 12 .a (highPage n) rfl

/-- Settles O29: the retired state with one bus write. -/
theorem memoryStores : Obligations.MemoryStores := by
  refine ⟨fun r s => ⟨encoded_ldHlR r, ?_⟩, fun v s => ⟨⟨rfl, fun _ _ => rfl⟩, ?_⟩, fun s => ⟨⟨rfl, fun _ _ => rfl⟩, ?_⟩,
    fun s => ⟨⟨rfl, fun _ _ => rfl⟩, ?_⟩, fun a s => ⟨⟨rfl, fun _ _ => rfl⟩, ?_⟩, fun s => ⟨⟨rfl, fun _ _ => rfl⟩, ?_⟩,
    fun n s => ⟨⟨rfl, fun _ _ => rfl⟩, ?_⟩⟩
  · exact exec_store 1 8 (hl s) (s.regs.get r) (exec_ldHlR r s)
  · exact exec_store 2 12 (hl s) v rfl
  · exact exec_store 1 8 (bc s) s.regs.a rfl
  · exact exec_store 1 8 (de s) s.regs.a rfl
  · exact exec_store 3 16 a s.regs.a rfl
  · exact exec_store 1 8 (highPage s.regs.c) s.regs.a rfl
  · exact exec_store 2 12 (highPage n) s.regs.a rfl

/-- Settles O30: a step down is the sum with -1 modulo 0x10000. -/
theorem steppingLoadsAndStores : Obligations.SteppingLoadsAndStores := by
  intro s p up down
  have hdown : hl s + -1#16 = down := (BitVec.sub_eq_add_neg p 1#16).symm
  exact ⟨⟨⟨rfl, fun _ _ => rfl⟩, retire_loadAStep hdown⟩, ⟨⟨rfl, fun _ _ => rfl⟩, retire_loadAStep rfl⟩,
    ⟨⟨rfl, fun _ _ => rfl⟩, retire_storeAStep hdown⟩, ⟨⟨rfl, fun _ _ => rfl⟩, retire_storeAStep rfl⟩⟩

end Sys2Proof.Machine

/-! SUPPORT. The stack and the 16-bit loads: bytes of plain RAM read back, a word over two of them, a push and a pop,
and the pair families by their operands (41_load16_stack.md R200 to R208). -/

namespace Sys2Proof.Machine

/-! ## Plain RAM -/

/-- Every store behind a plain RAM address is in its canonical form. -/
structure RamWf (s : State) : Prop where
  vram : s.vram.wf = true
  wram : s.wram.wf = true
  oam : s.oam.wf = true
  hram : s.hram.wf = true
  cram : s.cram.wf = true

theorem RamWf.of_storesOk {s : State} (h : s.storesOk = true) : RamWf s := by
  obtain ⟨-, ⟨hvram, -⟩, ⟨hwram, -⟩, ⟨hoam, -⟩, ⟨hhram, -⟩, ⟨hcram, -⟩, -⟩ := (storesOk_iff s).1 h
  exact ⟨hvram, hwram, hoam, hhram, hcram⟩

/-- What is plain RAM depends on the cartridge alone. -/
theorem plainRam_congr {u s : State} (hcart : u.cart = s.cart) (hcfg : u.cfg = s.cfg) (a : Word) :
    plainRam u a = plainRam s a := by
  simp only [plainRam, hcart, hcfg]

section
variable {s : State} {a : Word}

/-- Behind a plain address of the cartridge RAM window stands a byte of `cram`. -/
theorem exists_cram_of_plainRam (h : plainRam s a = true) (ha : regionOf a = .cartRam) :
    ∃ i, ramTarget s.cart s.cfg a = .cram i := by
  simp only [plainRam, ha] at h
  cases ht : ramTarget s.cart s.cfg a with
  | cram i => exact ⟨i, rfl⟩
  | closed | rtc i => simp [ht] at h

/-- A write to plain RAM keeps the stores in form, stores the byte, and moves nothing of the cartridge
(20_memory.md R79). -/
theorem writeByte_plainRam (v : Byte) (h : plainRam s a = true) (hs : RamWf s) :
    RamWf (writeByte s a v) ∧ readByte (writeByte s a v) a = v ∧ (writeByte s a v).cart = s.cart := by
  cases ha : regionOf a with
  | vram =>
    rw [writeByte_vram s v ha, readByte_vram _ ha]
    exact ⟨{ hs with vram := Memory.wf_write hs.vram _ v }, Memory.read_write_self hs.vram _ v, rfl⟩
  | wramFixed =>
    rw [writeByte_wramFixed s v ha, readByte_wramFixed _ ha]
    exact ⟨{ hs with wram := Memory.wf_write hs.wram _ v }, Memory.read_write_self hs.wram _ v, rfl⟩
  | wramBank =>
    rw [writeByte_wramBank s v ha, readByte_wramBank _ ha]
    exact ⟨{ hs with wram := Memory.wf_write hs.wram _ v }, Memory.read_write_self hs.wram _ v, rfl⟩
  | oam =>
    rw [writeByte_oam s v ha, readByte_oam _ ha]
    exact ⟨{ hs with oam := Memory.wf_write hs.oam _ v }, Memory.read_write_self hs.oam _ v, rfl⟩
  | hram =>
    rw [writeByte_hram s v ha, readByte_hram _ ha]
    exact ⟨{ hs with hram := Memory.wf_write hs.hram _ v }, Memory.read_write_self hs.hram _ v, rfl⟩
  | cartRam =>
    obtain ⟨i, ht⟩ := exists_cram_of_plainRam h ha
    rw [(cartRam_cram s v ha ht).2, (cartRam_cram { s with cram := s.cram.write i v } v ha ht).1]
    exact ⟨{ hs with cram := Memory.wf_write hs.cram i v }, Memory.read_write_self hs.cram i v, rfl⟩
  | rom | echo | unusable | io | ie => simp [plainRam, ha] at h

/-- A window that shows the clock has no byte of `cram` behind it (20_memory.md R120). -/
theorem clockSelected_of_ramTarget_cram {i : Nat} (h : ramTarget s.cart s.cfg a = .cram i) :
    clockSelected s = false := by
  rw [Bool.eq_false_iff]
  intro hclock
  obtain ⟨m, hm⟩ := exists_mbc3_of_clockSelected hclock
  simp only [clockSelected, hm, Bool.and_eq_true, decide_eq_true_eq, and_assoc] at hclock
  obtain ⟨hopen, hlo, hhi⟩ := hclock
  rw [hm, ramTarget_mbc3, if_neg (by simp [hopen]), if_pos ⟨hlo, hhi⟩] at h
  cases h

/-- A write to plain RAM changes its own address alone (20_memory.md R79). -/
theorem touched_plainRam {x : Word} (h : plainRam s x = true) (hne : a ≠ x) : touched s x a = false := by
  have hself : (a == x) = false := beq_eq_false_iff_ne.2 hne
  unfold touched
  cases hx : regionOf x with
  | vram | wramFixed | wramBank | oam | hram => exact hself
  | cartRam =>
    obtain ⟨i, ht⟩ := exists_cram_of_plainRam h hx
    simp only [hself, clockSelected_of_ramTarget_cram ht, Bool.false_and, Bool.or_false]
  | rom | echo | unusable | io | ie => simp [plainRam, hx] at h

/-- A word written over two bytes of plain RAM reads back: the second byte write leaves the first byte. -/
theorem readWord_writeWord_self (v : Word) (hs : RamWf s) (hlo : plainRam s a = true)
    (hhi : plainRam s (a + 1#16) = true) : readWord (writeWord s a v) a = v := by
  obtain ⟨hwf, hlow, hcart⟩ := writeByte_plainRam (lo v) hlo hs
  have hplain : plainRam (writeByte s a (lo v)) (a + 1#16) = true :=
    (plainRam_congr hcart (writeByte_cfg s a (lo v)) (a + 1#16)).trans hhi
  obtain ⟨-, hhigh, -⟩ := writeByte_plainRam (hi v) hplain hwf
  have hkept : touched (writeByte s a (lo v)) (a + 1#16) a = false := touched_plainRam hplain (by bv_omega)
  rw [readWord, writeWord, hhigh, readByte_writeByte_of_not_touched (hi v) hkept, hlow, join_hi_lo]

end

/-! ## Push and pop -/

/-- The value popped depends on `SP` and on the parts behind the bus alone. -/
theorem popValue_congr {u s : State} (hb : SameBus u s) (hsp : u.sp = s.sp) : popValue u = popValue s := by
  simp only [popValue, readWord, hsp, readByte_sameBus hb]

/-- A pop returns what was pushed over plain RAM (41_load16_stack.md R206). -/
theorem popValue_push16 {s : State} (v : Word) (hs : RamWf s) (hlo : plainRam s (s.sp - 2#16) = true)
    (hhi : plainRam s (s.sp - 1#16) = true) : popValue (push16 v s) = v := by
  have hnext : s.sp - 2#16 + 1#16 = s.sp - 1#16 := by bv_omega
  rw [popValue, push16_sp, push16_eq]
  exact readWord_writeWord_self v { hs with } hlo (hnext.symm ▸ hhi)

/-- A push within the frame of a step. -/
theorem finish_push16 (len k : Nat) (s : State) (v : Word) :
    finishStep s.imePending k (push16 v (beginStep len s)) = push16 v (retired len k s) := by
  rw [← push16_finishStep, finishStep_beginStep]

/-- CALL is a push of the PC past it, and a jump (45_control_flow.md R305). -/
theorem exec_callA16 (a : Word) (s : State) :
    exec (.callA16 a) s = .next (jump a (push16 (retired 3 24 s).pc (retired 3 24 s))) :=
  congrArg (fun u => Host.Outcome.next (jump a u)) (finish_push16 3 24 s (pcAfter s 3))

/-- RET takes PC from the stack and moves `SP` past it (45_control_flow.md R307). -/
theorem exec_ret (t : State) : ∃ u, exec .ret t = .next u ∧ u.pc = popValue t ∧ u.sp = t.sp + 2#16 :=
  ⟨_, rfl, popValue_congr (sameBus_beginStep 1 t) rfl, rfl⟩

/-! ## The pair families by their operands -/

theorem encoded_ldR16D16 (p : Reg16) :
    Encoded (0b00#2 ++ p.code ++ 0b0001#4) 3 (fun b1 b2 => Fam.ldR16D16 p (b2 ++ b1)) := by
  cases p <;> exact ⟨rfl, fun _ _ => rfl⟩

theorem encoded_push (p : Reg16Stk) : Encoded (0b11#2 ++ p.code ++ 0b0101#4) 1 (fun _ _ => Fam.push p) := by
  cases p <;> exact ⟨rfl, fun _ _ => rfl⟩

theorem encoded_pop (p : Reg16Stk) : Encoded (0b11#2 ++ p.code ++ 0b0001#4) 1 (fun _ _ => Fam.pop p) := by
  cases p <;> exact ⟨rfl, fun _ _ => rfl⟩

/-- PUSH is one push of the pair in the state before it (41_load16_stack.md R204). -/
theorem exec_push (p : Reg16Stk) (s : State) : exec (Fam.push p) s = .next (push16 (r16stk s p) (retired 1 16 s)) := by
  have h : exec (Fam.push p) s = retire 1 16 (push p) s := by cases p <;> rfl
  have hpair : r16stk (beginStep 1 s) p = r16stk s p := by cases p <;> rfl
  rw [h, retire_eq, push, finish_push16, hpair]

/-- POP writes the pair with what the bus holds at `SP` before it (41_load16_stack.md R207, R208). -/
theorem exec_pop (p : Reg16Stk) (s : State) :
    exec (Fam.pop p) s =
      .next (setR16stk p (join (readByte s (s.sp + 1#16)) (readByte s s.sp)) (popSp (retired 1 12 s))) := by
  have h : exec (Fam.pop p) s = retire 1 12 (pop p) s := by cases p <;> rfl
  rw [h, retire_eq, pop, popValue_congr (sameBus_beginStep 1 s) rfl]
  cases p <;> rfl

/-- `F` bit by bit (10_state.md R23). -/
theorem toByte_eq_append (f : Flags) :
    f.toByte = BitVec.ofBool f.z ++ BitVec.ofBool f.n ++ BitVec.ofBool f.hf ++ BitVec.ofBool f.cf ++ 0#4 := by
  obtain ⟨z, n, hf, cf⟩ := f
  revert z n hf cf
  decide

/-! ## SP plus a displacement -/

theorem toNat_lo (w : Word) : (lo w).toNat = w.toNat % 256 := by
  rw [lo_eq, BitVec.toNat_setWidth]

/-- The sum and the carries of the low byte, by their numbers (41_load16_stack.md R203). -/
theorem addSigned_eq (sp : Word) (e : Byte) :
    addSigned sp e =
      (sp + e.signExtend 16,
        { z := false
          n := false
          hf := decide (0xF < sp.toNat % 16 + e.toNat % 16)
          cf := decide (0xFF < sp.toNat % 256 + e.toNat) }) := by
  have hdvd : 16 ∣ 256 := by decide
  simp only [addSigned, sext16, lowNibble, toNat_lo, Nat.mod_mod_of_dvd _ hdvd, gt_iff_lt]

end Sys2Proof.Machine

/-! The statements of 41_load16_stack.md settled, and sample words of every family. -/

namespace Sys2Proof.Machine

/-- Settles O26: a word over plain RAM reads back, and CALL and RET are a push and a pop. -/
theorem pushPopSymmetry : Obligations.PushPopSymmetry := by
  refine ⟨fun _ => ⟨rfl, rfl⟩, fun s v hs hlo hhi => ⟨popValue_push16 v (.of_storesOk hs) hlo hhi, ?_⟩,
    fun s t a hs hlo hhi hcall => ?_⟩
  · rw [popSp_sp, push16_sp, BitVec.sub_add_cancel]
  · cases (exec_callA16 a s).symm.trans hcall
    obtain ⟨u, hret, hpc, hsp⟩ := exec_ret (jump a (push16 (retired 3 24 s).pc (retired 3 24 s)))
    refine ⟨u, hret, ?_, ?_⟩
    · rw [hpc, popValue_congr (sameBus_jump a _) rfl]
      exact popValue_push16 (s := retired 3 24 s) _ (.of_storesOk hs) hlo hhi
    · rw [hsp, jump_sp, push16_sp, retired_sp, BitVec.sub_add_cancel]

/-- Settles O31: LD (a16),SP is the word write of `SP` as its two byte writes. -/
theorem sixteenBitLoads : Obligations.SixteenBitLoads := by
  refine ⟨fun p v s => ⟨encoded_ldR16D16 p, ?_⟩, fun a s => ⟨⟨rfl, fun _ _ => rfl⟩, ?_⟩,
    fun s => ⟨⟨rfl, fun _ _ => rfl⟩, rfl⟩⟩
  · cases p <;> rfl
  · have h : exec (.ldIndA16Sp a) s = .next (finishStep s.imePending 20 (writeWord (beginStep 3 s) a s.sp)) := rfl
    rw [h, ← writeWord_finishStep, finishStep_beginStep, writeWord, lo_eq, hi_eq]

/-- Settles O32, by the sum with the sign-extended displacement. -/
theorem spPlusDisplacement : Obligations.SpPlusDisplacement := by
  intro e s r f
  have hsum : addSigned s.sp e = (r, f) := addSigned_eq s.sp e
  have hhl : exec (.ldHlSpE8 e) s =
      .next { setHl (addSigned s.sp e).1 (retired 2 12 s) with f := (addSigned s.sp e).2 } := rfl
  have hsp : exec (.addSpE8 e) s =
      .next { retired 2 16 s with sp := (addSigned s.sp e).1, f := (addSigned s.sp e).2 } := rfl
  rw [hsum] at hhl hsp
  exact ⟨⟨⟨rfl, fun _ _ => rfl⟩, hhl⟩, ⟨⟨rfl, fun _ _ => rfl⟩, hsp⟩⟩

/-- Settles O33: the pair pushed, and the two halves of the word popped. -/
theorem pushAndPop : Obligations.PushAndPop := by
  refine ⟨fun p s => ⟨encoded_push p, ?_⟩, fun p s => ⟨encoded_pop p, ?_⟩⟩
  · rw [exec_push]
    cases p with
    | af => rw [← toByte_eq_append]; rfl
    | bc | de | hl => rfl
  · rw [exec_pop]
    cases p with
    | bc | de | hl | af => simp only [setR16stk, setBc, setDe, setHl, setAf, hi_join, lo_join]; rfl

/-- Settles O3, word by word. -/
theorem sampleWordsDecode : Obligations.SampleWordsDecode :=
  ⟨rfl, rfl, rfl, rfl, rfl, rfl, rfl, rfl, rfl, rfl, rfl, rfl, rfl⟩

end Sys2Proof.Machine

/-! SUPPORT. What an 8-bit arithmetic instruction does as a whole CPU step, and the sums, differences and corrections by
their numbers (42_alu8.md R220 to R253). -/

namespace Sys2Proof.Machine

/-! ## Results and flags by their numbers -/

theorem bitValue_eq_toNat (c : Bool) : bitValue c = c.toNat := by
  cases c <;> rfl

theorem toNat_setWidth_ofBool (c : Bool) : ((BitVec.ofBool c).setWidth 8).toNat = c.toNat := by
  cases c <;> rfl

/-- The byte of the sum is the sum of the bytes modulo 256 (42_alu8.md R220). -/
theorem ofNat_sum (a b : Byte) (c : Bool) :
    BitVec.ofNat 8 (a.toNat + b.toNat + c.toNat) = a + b + (BitVec.ofBool c).setWidth 8 := by
  apply BitVec.eq_of_toNat_eq
  simp only [BitVec.toNat_ofNat, BitVec.toNat_add, toNat_setWidth_ofBool]
  omega

theorem toNat_sum (a b : Byte) (c : Bool) :
    (a + b + (BitVec.ofBool c).setWidth 8).toNat = (a.toNat + b.toNat + c.toNat) % 256 := by
  rw [← ofNat_sum, BitVec.toNat_ofNat]

theorem toNat_diff (a b : Byte) (c : Bool) :
    (a - b - (BitVec.ofBool c).setWidth 8).toNat = (a.toNat + 256 - (b.toNat + c.toNat)) % 256 := by
  have hc := c.toNat_le
  simp only [BitVec.toNat_sub, toNat_setWidth_ofBool]
  omega

/-- The byte of the difference is the difference of the bytes modulo 256 (42_alu8.md R220). -/
theorem ofInt_diff (a b : Byte) (c : Bool) :
    BitVec.ofInt 8 ((a.toNat : Int) - b.toNat - c.toNat) = a - b - (BitVec.ofBool c).setWidth 8 := by
  have hc := c.toNat_le
  apply BitVec.eq_of_toNat_eq
  rw [toNat_diff, BitVec.toNat_ofInt]
  omega

theorem add8_eq (a b : Byte) (c : Bool) :
    add8 a b c = (a + b + (BitVec.ofBool c).setWidth 8, sumFlags a b c) := by
  have hz : (a.toNat + b.toNat + c.toNat) % 256 = 0 ↔ a + b + (BitVec.ofBool c).setWidth 8 = 0#8 := by
    rw [← ofNat_sum, BitVec.toNat_eq, BitVec.toNat_ofNat]
    rfl
  simp only [add8, sumFlags, bitValue_eq_toNat, lowNibble, gt_iff_lt, ofNat_sum, Bool.beq_eq_decide_eq, hz]

theorem sub8_eq (a b : Byte) (c : Bool) :
    sub8 a b c = (a - b - (BitVec.ofBool c).setWidth 8, diffFlags a b c) := by
  have hz : ((a.toNat : Int) - b.toNat - c.toNat) % 256 = 0 ↔ a - b - (BitVec.ofBool c).setWidth 8 = 0#8 := by
    rw [← ofInt_diff, BitVec.toNat_eq, BitVec.toNat_ofInt, BitVec.toNat_ofNat]
    omega
  simp only [sub8, diffFlags, bitValue_eq_toNat, lowNibble, ofInt_diff, Bool.beq_eq_decide_eq, hz]

/-- ADD and ADC are the sum, with the carry in for ADC alone. -/
theorem alu_sum {op : AluOp} (h : op = .add ∨ op = .adc) (a b : Byte) (f : Flags) :
    alu op a b f = add8 a b (op == .adc && f.cf) := by
  obtain rfl | rfl := h <;> rfl

/-- SUB, SBC and CP are the difference, with the borrow in for SBC alone and A kept for CP alone. -/
theorem alu_diff {op : AluOp} (h : op = .sub ∨ op = .sbc ∨ op = .cp) (a b : Byte) (f : Flags) :
    alu op a b f =
      (if op = .cp then a else (sub8 a b (op == .sbc && f.cf)).1, (sub8 a b (op == .sbc && f.cf)).2) := by
  obtain rfl | rfl | rfl := h <;> rfl

/-- AND, XOR and OR: HF is set for AND alone. -/
theorem alu_logic {op : AluOp} (h : op = .and ∨ op = .xor ∨ op = .or) (a b : Byte) (f : Flags) :
    alu op a b f =
      logic8 (if op = .and then a &&& b else if op = .xor then a ^^^ b else a ||| b) (op == .and) := by
  obtain rfl | rfl | rfl := h <;> rfl

/-- INC wraps to zero from 0xFF alone (42_alu8.md R245). -/
theorem inc8_eq (v : Byte) (f : Flags) :
    inc8 v f = (v + 1#8, { z := v == 0xFF#8, n := false, hf := v.toNat % 16 == 0xF, cf := f.cf }) := by
  have hz : v + 1#8 = 0#8 ↔ v = 0xFF#8 := by bv_omega
  rw [inc8, decide_eq_decide.2 hz]
  rfl

/-- DEC reaches zero from 1 alone (42_alu8.md R247). -/
theorem dec8_eq (v : Byte) (f : Flags) :
    dec8 v f = (v - 1#8, { z := v == 0x01#8, n := true, hf := v.toNat % 16 == 0, cf := f.cf }) := by
  have hz : v - 1#8 = 0#8 ↔ v = 0x01#8 := by bv_omega
  rw [dec8, decide_eq_decide.2 hz]
  rfl

/-- INC then DEC gives the byte back; the half borrow is the half carry (42_alu8.md R253). -/
theorem dec8_inc8 (v : Byte) (f : Flags) :
    dec8 (inc8 v f).1 (inc8 v f).2 = (v, { z := v == 0x00#8, n := true, hf := v.toNat % 16 == 0xF, cf := f.cf }) := by
  have hback : v + 1#8 - 1#8 = v := BitVec.add_sub_cancel v 1#8
  have hhf : (v + 1#8).toNat % 16 = 0 ↔ v.toNat % 16 = 0xF := by bv_omega
  simp only [dec8, inc8, lowNibble, hback, hhf, Bool.beq_eq_decide_eq]

/-- DEC then INC gives the byte back; the half carry is the half borrow (42_alu8.md R253). -/
theorem inc8_dec8 (v : Byte) (f : Flags) :
    inc8 (dec8 v f).1 (dec8 v f).2 = (v, { z := v == 0x00#8, n := false, hf := v.toNat % 16 == 0, cf := f.cf }) := by
  have hback : v - 1#8 + 1#8 = v := BitVec.sub_add_cancel v 1#8
  have hhf : (v - 1#8).toNat % 16 = 0xF ↔ v.toNat % 16 = 0 := by bv_omega
  simp only [dec8, inc8, lowNibble, hback, hhf, Bool.beq_eq_decide_eq]

/-! ## Operations within the frame of a step -/

/-- A result for the byte at an address, within the frame of a step. -/
theorem finish_setMemF (len k : Nat) (s : State) (a : Word) (r : Byte × Flags) :
    finishStep s.imePending k (setMemF a r (beginStep len s)) = setMemF a r (retired len k s) :=
  congrArg (fun u : State => { u with f := r.2 }) (finish_writeByte len k s a r.1)

/-- INC (HL) reads the byte before the step and writes it once (42_alu8.md R246). -/
theorem exec_incIndHl (s : State) :
    exec .incIndHl s = .next (setMemF (hl s) (inc8 (readByte s (hl s)) s.f) (retired 1 12 s)) := by
  rw [← finish_setMemF, ← readByte_beginStep 1 s]
  rfl

/-- DEC (HL) reads the byte before the step and writes it once (42_alu8.md R248). -/
theorem exec_decIndHl (s : State) :
    exec .decIndHl s = .next (setMemF (hl s) (dec8 (readByte s (hl s)) s.f) (retired 1 12 s)) := by
  rw [← finish_setMemF, ← readByte_beginStep 1 s]
  rfl

/-! ## The families by their operands -/

theorem encoded_aluR (op : AluOp) (r : Reg8) :
    Encoded (0b10#2 ++ op.code ++ r.code) 1 (fun _ _ => Fam.aluR op r) := by
  cases op <;> cases r <;> exact ⟨rfl, fun _ _ => rfl⟩

theorem encoded_aluHl (op : AluOp) : Encoded (0b10#2 ++ op.code ++ 0b110#3) 1 (fun _ _ => Fam.aluHl op) := by
  cases op <;> exact ⟨rfl, fun _ _ => rfl⟩

theorem encoded_aluD8 (op : AluOp) : Encoded (0b11#2 ++ op.code ++ 0b110#3) 2 (fun b1 _ => Fam.aluD8 op b1) := by
  cases op <;> exact ⟨rfl, fun _ _ => rfl⟩

theorem encoded_incR (rd : Reg8) : Encoded (0b00#2 ++ rd.code ++ 0b100#3) 1 (fun _ _ => Fam.incR rd) := by
  cases rd <;> exact ⟨rfl, fun _ _ => rfl⟩

theorem encoded_decR (rd : Reg8) : Encoded (0b00#2 ++ rd.code ++ 0b101#3) 1 (fun _ _ => Fam.decR rd) := by
  cases rd <;> exact ⟨rfl, fun _ _ => rfl⟩

theorem exec_aluR (op : AluOp) (r : Reg8) (s : State) :
    exec (Fam.aluR op r) s = .next (setAF8 (alu op s.regs.a (s.regs.get r) s.f) (retired 1 4 s)) := by
  cases op <;> cases r <;> rfl

theorem exec_aluHl (op : AluOp) (s : State) :
    exec (Fam.aluHl op) s = .next (setAF8 (alu op s.regs.a (readByte s (hl s)) s.f) (retired 1 8 s)) := by
  have h : exec (Fam.aluHl op) s = retire 1 8 (aluHl op) s := by cases op <;> rfl
  rw [h, ← readByte_beginStep 1 s]
  rfl

theorem exec_aluD8 (op : AluOp) (v : Byte) (s : State) :
    exec (Fam.aluD8 op v) s = .next (setAF8 (alu op s.regs.a v s.f) (retired 2 8 s)) := by
  cases op <;> rfl

theorem exec_incR (rd : Reg8) (s : State) :
    exec (Fam.incR rd) s = .next (setR8F rd (inc8 (s.regs.get rd) s.f) (retired 1 4 s)) := by
  cases rd <;> rfl

theorem exec_decR (rd : Reg8) (s : State) :
    exec (Fam.decR rd) s = .next (setR8F rd (dec8 (s.regs.get rd) s.f) (retired 1 4 s)) := by
  cases rd <;> rfl

theorem exec_daa (s : State) : exec .daa s = .next (setAF8 (daa s.regs.a s.f) (retired 1 4 s)) := rfl

/-- DAA right after an immediate operation works on its result and flags. -/
theorem exec_aluD8_daa (op : AluOp) (b : Byte) (s : State) :
    ∃ t u, exec (Fam.aluD8 op b) s = .next t ∧ exec .daa t = .next u ∧
      u.regs.a = (daa (alu op s.regs.a b s.f).1 (alu op s.regs.a b s.f).2).1 ∧
      u.f = (daa (alu op s.regs.a b s.f).1 (alu op s.regs.a b s.f).2).2 :=
  ⟨_, _, exec_aluD8 op b s, exec_daa _, rfl, rfl⟩

/-- The operand forms of an ALU operation whose new A and flags `result` gives (30_encoding.md R147). -/
theorem alu_forms {op : AluOp} {s : State} {result : Nat → Nat → Byte → State}
    (h : ∀ len k b, setAF8 (alu op s.regs.a b s.f) (retired len k s) = result len k b) :
    (∀ r : Reg8,
      Encoded (0b10#2 ++ op.code ++ r.code) 1 (fun _ _ => Fam.aluR op r) ∧
      exec (Fam.aluR op r) s = .next (result 1 4 (s.regs.get r))) ∧
    Encoded (0b10#2 ++ op.code ++ 0b110#3) 1 (fun _ _ => Fam.aluHl op) ∧
    exec (Fam.aluHl op) s = .next (result 1 8 (readByte s (hl s))) ∧
    (∀ v : Byte,
      Encoded (0b11#2 ++ op.code ++ 0b110#3) 2 (fun b1 _ => Fam.aluD8 op b1) ∧
      exec (Fam.aluD8 op v) s = .next (result 2 8 v)) := by
  refine ⟨fun r => ⟨encoded_aluR op r, ?_⟩, encoded_aluHl op, ?_, fun v => ⟨encoded_aluD8 op, ?_⟩⟩
  · rw [exec_aluR, h]
  · rw [exec_aluHl, h]
  · rw [exec_aluD8, h]

/-! ## The register file under two writes -/

theorem Regs.set_set (g : Regs) (rd : Reg8) (v w : Byte) : (g.set rd v).set rd w = g.set rd w := by
  cases rd <;> rfl

theorem Regs.set_get (g : Regs) (rd : Reg8) : g.set rd (g.get rd) = g := by
  cases rd <;> rfl

/-- A register written twice, the second time with what it held first. -/
theorem Regs.set_set_get (g : Regs) (rd : Reg8) (v : Byte) : (g.set rd v).set rd (g.get rd) = g := by
  rw [Regs.set_set, Regs.set_get]

/-! ## Decimal adjustment -/

/-- The two corrections have no bit in common, and the carry out is the test for 0x60 (42_alu8.md R249). -/
theorem daa_eq (a : Byte) (f : Flags) :
    let off : Byte := (if daaLow a f then 0x06#8 else 0x00#8) + (if daaHigh a f then 0x60#8 else 0x00#8)
    let r : Byte := if f.n then a - off else a + off
    daa a f = (r, { z := r == 0x00#8, n := f.n, hf := false, cf := daaHigh a f }) := by
  have hoff : daaOffset a f =
      (if daaLow a f then 0x06#8 else 0x00#8) + (if daaHigh a f then 0x60#8 else 0x00#8) := by
    unfold daaOffset
    cases daaLow a f <;> cases daaHigh a f <;> rfl
  have hcf : (f.cf || daaHigh a f) = daaHigh a f := by
    rw [daaHigh, ← Bool.or_assoc, Bool.or_self]
  simp only [daa, hoff, hcf, Bool.beq_eq_decide_eq]

/-- The two corrections as a number. -/
theorem toNat_corrections (low high : Bool) :
    ((if low then 0x06#8 else 0x00#8) + (if high then 0x60#8 else 0x00#8) : Byte).toNat =
      6 * low.toNat + 96 * high.toNat := by
  cases low <;> cases high <;> rfl

/-- A sum of two digits up to `m` and a carry, less `m + 1` when it exceeds `m`, is a digit. -/
theorem carry_bounds {m n : Nat} (h : n ≤ 2 * m + 1) :
    (m + 1) * (decide (m < n)).toNat ≤ n ∧ n ≤ (m + 1) * (decide (m < n)).toNat + m := by
  by_cases hm : m < n <;> simp [hm] <;> omega

/-- A difference from a digit up to `m`, plus `m + 1` when it borrows, is a digit. -/
theorem borrow_bounds {m n k : Nat} (hn : n ≤ m) (hk : k ≤ m + 1) :
    k ≤ n + (m + 1) * (decide (n < k)).toNat ∧ n + (m + 1) * (decide (n < k)).toNat ≤ k + m := by
  by_cases hm : n < k <;> simp [hm] <;> omega

/-- The corrected sum of two decimal bytes, digit by digit: the digits of the decimal sum. -/
theorem digits_sum {x y z w c : Nat} (hx : x ≤ 9) (hy : y ≤ 9) (hz : z ≤ 9) (hw : w ≤ 9) (hc : c ≤ 1) :
    ∃ p q, p ≤ 9 ∧ q ≤ 9 ∧ 10 * p + q = (10 * x + y + (10 * z + w) + c) % 100 ∧
      ((16 * x + y + (16 * z + w) + c) % 256 +
        (6 * (decide (9 < y + w + c)).toNat + 96 * (decide (99 < 10 * x + y + (10 * z + w) + c)).toNat)) % 256 =
          16 * p + q := by
  have hlow := carry_bounds (m := 9) (n := y + w + c) (by omega)
  have hhigh := carry_bounds (m := 99) (n := 10 * x + y + (10 * z + w) + c) (by omega)
  generalize (decide (9 < _)).toNat = low at hlow ⊢
  generalize (decide (99 < _)).toNat = high at hhigh ⊢
  obtain ⟨q, hq⟩ := Nat.exists_eq_add_of_le hlow.1
  obtain ⟨p, hp⟩ : ∃ p, x + z + low = 10 * high + p := Nat.exists_eq_add_of_le (by omega)
  exact ⟨p, q, by omega, by omega, by omega, by omega⟩

/-- The corrected difference of two decimal bytes, digit by digit: the digits of the decimal difference. -/
theorem digits_diff {x y z w c : Nat} (hx : x ≤ 9) (hy : y ≤ 9) (hz : z ≤ 9) (hw : w ≤ 9) (hc : c ≤ 1) :
    ∃ p q, p ≤ 9 ∧ q ≤ 9 ∧ 10 * p + q = (100 + (10 * x + y) - (10 * z + w + c)) % 100 ∧
      (256 - (6 * (decide (y < w + c)).toNat + 96 * (decide (10 * x + y < 10 * z + w + c)).toNat) +
        (16 * x + y + 256 - (16 * z + w + c)) % 256) % 256 = 16 * p + q := by
  have hlow := borrow_bounds (m := 9) (n := y) (k := w + c) hy (by omega)
  have hhigh := borrow_bounds (m := 99) (n := 10 * x + y) (k := 10 * z + w + c) (by omega) (by omega)
  generalize (decide (y < _)).toNat = low at hlow ⊢
  have hbit := (decide (10 * x + y < 10 * z + w + c)).toNat_le
  generalize (decide (10 * x + y < _)).toNat = high at hhigh hbit ⊢
  obtain ⟨q, hq⟩ := Nat.exists_eq_add_of_le hlow.1
  obtain ⟨p, hp⟩ : ∃ p, x + 10 * high = z + low + p := Nat.exists_eq_add_of_le (by omega)
  obtain rfl | rfl : high = 0 ∨ high = 1 := by omega
  · exact ⟨p, q, by omega, by omega, by omega, by omega⟩
  · exact ⟨p, q, by omega, by omega, by omega, by omega⟩

theorem isBcd_of_digits {v : Byte} {p q : Nat} (hp : p ≤ 9) (hq : q ≤ 9) (hv : v.toNat = 16 * p + q) :
    isBcd v ∧ bcdValue v = 10 * p + q := by
  unfold isBcd bcdValue
  omega

section
variable {a b : Byte} (c : Bool) (ha : isBcd a) (hb : isBcd b)
include ha hb

/-- After a sum of decimal bytes, 0x06 is added when the low digits and the carry in give more than 9. -/
theorem daaLow_sum :
    daaLow (a + b + (BitVec.ofBool c).setWidth 8) (sumFlags a b c) =
      decide (9 < a.toNat % 16 + b.toNat % 16 + c.toNat) := by
  obtain ⟨ha1, ha0⟩ := ha
  obtain ⟨hb1, hb0⟩ := hb
  have hc := c.toNat_le
  rw [Bool.eq_iff_iff]
  simp only [daaLow, sumFlags, lowNibble, toNat_sum, Bool.not_false, Bool.true_and, Bool.or_eq_true,
    decide_eq_true_eq]
  omega

/-- After a sum of decimal bytes, 0x60 is added when the decimal sum exceeds 99. -/
theorem daaHigh_sum :
    daaHigh (a + b + (BitVec.ofBool c).setWidth 8) (sumFlags a b c) =
      decide (99 < bcdValue a + bcdValue b + c.toNat) := by
  obtain ⟨ha1, ha0⟩ := ha
  obtain ⟨hb1, hb0⟩ := hb
  have hc := c.toNat_le
  unfold bcdValue
  rw [Bool.eq_iff_iff]
  simp only [daaHigh, sumFlags, toNat_sum, Bool.not_false, Bool.true_and, Bool.or_eq_true, decide_eq_true_eq]
  omega

/-- DAA after a sum of decimal bytes gives the decimal sum, and its carry out. -/
theorem daa_add8 :
    ∃ r, (isBcd r ∧ bcdValue r = (bcdValue a + bcdValue b + c.toNat) % 100) ∧
      daa (add8 a b c).1 (add8 a b c).2 =
        (r, { z := r == 0x00#8
              n := false
              hf := false
              cf := decide (99 < bcdValue a + bcdValue b + c.toNat) }) := by
  have hn : (sumFlags a b c).n = false := rfl
  simp only [add8_eq, daa_eq, daaLow_sum c ha hb, daaHigh_sum c ha hb, hn, Bool.false_eq_true, if_false]
  refine ⟨_, ?_, rfl⟩
  obtain ⟨p, q, hp, hq, hval, hnum⟩ := digits_sum ha.1 ha.2 hb.1 hb.2 c.toNat_le
  rw [Nat.div_add_mod, Nat.div_add_mod] at hnum
  refine hval ▸ isBcd_of_digits hp hq ?_
  rw [BitVec.toNat_add, toNat_sum, toNat_corrections]
  exact hnum

/-- After a difference of decimal bytes, 0x60 is taken away when the decimal difference is negative. -/
theorem daaHigh_diff (v : Byte) :
    daaHigh v (diffFlags a b c) = decide (bcdValue a < bcdValue b + c.toNat) := by
  obtain ⟨ha1, ha0⟩ := ha
  obtain ⟨hb1, hb0⟩ := hb
  have hc := c.toNat_le
  unfold bcdValue
  rw [Bool.eq_iff_iff]
  simp only [daaHigh, diffFlags, Bool.not_true, Bool.false_and, Bool.or_false, decide_eq_true_eq]
  omega

/-- DAA after a difference of decimal bytes gives the decimal difference modulo 100, and its borrow. -/
theorem daa_sub8 :
    ∃ r, (isBcd r ∧ bcdValue r = (100 + bcdValue a - (bcdValue b + c.toNat)) % 100) ∧
      daa (sub8 a b c).1 (sub8 a b c).2 =
        (r, { z := r == 0x00#8
              n := true
              hf := false
              cf := decide (bcdValue a < bcdValue b + c.toNat) }) := by
  have hlow (v : Byte) : daaLow v (diffFlags a b c) = decide (a.toNat % 16 < b.toNat % 16 + c.toNat) :=
    Bool.or_false _
  have hn : (diffFlags a b c).n = true := rfl
  simp only [sub8_eq, daa_eq, hlow, daaHigh_diff c ha hb, hn, if_true]
  refine ⟨_, ?_, rfl⟩
  obtain ⟨p, q, hp, hq, hval, hnum⟩ := digits_diff ha.1 ha.2 hb.1 hb.2 c.toNat_le
  rw [Nat.div_add_mod, Nat.div_add_mod] at hnum
  refine hval ▸ isBcd_of_digits hp hq ?_
  rw [BitVec.toNat_sub, toNat_diff, toNat_corrections]
  exact hnum

end

end Sys2Proof.Machine

/-! The statements of 42_alu8.md settled. -/

namespace Sys2Proof.Machine

/-- Settles O39: the byte comes back, and with it the register file. -/
theorem incrementThenDecrement : Obligations.IncrementThenDecrement := by
  intro rd s
  refine ⟨⟨_, _, exec_incR rd s, exec_decR rd _, ?_⟩, ⟨_, _, exec_decR rd s, exec_incR rd _, ?_⟩⟩
  · simp [Regs.get_set, dec8_inc8, Regs.set_set_get]
  · simp [Regs.get_set, inc8_dec8, Regs.set_set_get]

/-- Settles O40: the two corrections carry the decimal digits. -/
theorem decimalAdjustAfterArithmetic : Obligations.DecimalAdjustAfterArithmetic := by
  intro op b s ha hb c
  refine ⟨fun hop => ?_, fun hop => ?_⟩
  · have hc : c = (op == .adc && s.f.cf).toNat := by obtain rfl | rfl := hop <;> rfl
    obtain ⟨r, ⟨hbcd, hval⟩, hdaa⟩ := daa_add8 (op == .adc && s.f.cf) ha hb
    obtain ⟨t, u, ht, hu, hua, huf⟩ := exec_aluD8_daa op b s
    refine ⟨t, u, ht, hu, ?_⟩
    rw [hua, huf, alu_sum hop, hdaa, hc]
    exact ⟨hbcd, hval, rfl⟩
  · have hc : c = (op == .sbc && s.f.cf).toNat := by obtain rfl | rfl := hop <;> rfl
    obtain ⟨r, ⟨hbcd, hval⟩, hdaa⟩ := daa_sub8 (op == .sbc && s.f.cf) ha hb
    have halu : alu op s.regs.a b s.f = sub8 s.regs.a b (op == .sbc && s.f.cf) := by obtain rfl | rfl := hop <;> rfl
    obtain ⟨t, u, ht, hu, hua, huf⟩ := exec_aluD8_daa op b s
    refine ⟨t, u, ht, hu, ?_⟩
    rw [hua, huf, halu, hdaa, hc]
    exact ⟨hbcd, hval, rfl⟩

/-- Settles O34: the sum by the flag law. -/
theorem additionInstructions : Obligations.AdditionInstructions := by
  intro op s hop c result
  exact alu_forms fun len k b => by rw [alu_sum hop, add8_eq]; rfl

/-- Settles O35: the difference by the flag law. -/
theorem subtractionInstructions : Obligations.SubtractionInstructions := by
  intro op s hop c result
  exact alu_forms fun len k b => by rw [alu_diff hop, sub8_eq]; rfl

/-- Settles O36: the value by the operation, Z from it; a byte's exclusive or with itself is 0. -/
theorem logicInstructions : Obligations.LogicInstructions := by
  refine ⟨fun op s hop => ?_, fun s => ?_⟩
  · intro value result
    exact alu_forms fun len k b => by rw [alu_logic hop, logic8, ← Bool.beq_eq_decide_eq]; rfl
  · have h := exec_aluR .xor .a s
    have hself : alu .xor s.regs.a s.regs.a s.f = (0x00#8, { z := true, n := false, hf := false, cf := false }) := by
      simp [alu, logic8]
    rw [Regs.get, hself] at h
    exact h

/-- Settles O37: result and flags of INC and DEC from the old value. -/
theorem incrementAndDecrement : Obligations.IncrementAndDecrement := by
  intro s incF decF p m
  refine ⟨fun rd => ⟨encoded_incR rd, ?_⟩, fun rd => ⟨encoded_decR rd, ?_⟩, ⟨rfl, fun _ _ => rfl⟩, ?_,
    ⟨rfl, fun _ _ => rfl⟩, ?_⟩
  · rw [exec_incR, inc8_eq]; rfl
  · rw [exec_decR, dec8_eq]; rfl
  · rw [exec_incIndHl, inc8_eq]; rfl
  · rw [exec_decIndHl, dec8_eq]; rfl

/-- Settles O38: DAA by its two tests, the others by their flags. -/
theorem adjustInstructions : Obligations.AdjustInstructions := by
  intro s low high off adjusted
  refine ⟨⟨⟨rfl, fun _ _ => rfl⟩, ?_⟩, ⟨⟨rfl, fun _ _ => rfl⟩, rfl⟩, ⟨⟨rfl, fun _ _ => rfl⟩, rfl⟩,
    ⟨⟨rfl, fun _ _ => rfl⟩, rfl⟩⟩
  rw [exec_daa, daa_eq]
  rfl

end Sys2Proof.Machine

/-! SUPPORT. What a 16-bit arithmetic instruction does as a whole CPU step, and its families by their operands
(43_alu16.md R260 to R262). -/

namespace Sys2Proof.Machine

theorem encoded_addHl (p : Reg16) : Encoded (0b00#2 ++ p.code ++ 0b1001#4) 1 (fun _ _ => Fam.addHl p) := by
  cases p <;> exact ⟨rfl, fun _ _ => rfl⟩

theorem encoded_incR16 (p : Reg16) : Encoded (0b00#2 ++ p.code ++ 0b0011#4) 1 (fun _ _ => Fam.incR16 p) := by
  cases p <;> exact ⟨rfl, fun _ _ => rfl⟩

theorem encoded_decR16 (p : Reg16) : Encoded (0b00#2 ++ p.code ++ 0b1011#4) 1 (fun _ _ => Fam.decR16 p) := by
  cases p <;> exact ⟨rfl, fun _ _ => rfl⟩

/-- ADD HL,r16 adds the two pairs of the state before it (43_alu16.md R260). -/
theorem exec_addHl (p : Reg16) (s : State) :
    exec (Fam.addHl p) s =
      .next { setHl (add16 (hl s) (r16 s p) s.f).1 (retired 1 8 s) with f := (add16 (hl s) (r16 s p) s.f).2 } := by
  cases p <;> rfl

/-- INC r16 writes the pair alone (43_alu16.md R261). -/
theorem exec_incR16 (p : Reg16) (s : State) :
    exec (Fam.incR16 p) s = .next (setR16 p (r16 s p + 1#16) (retired 1 8 s)) := by
  cases p <;> rfl

/-- DEC r16 writes the pair alone (43_alu16.md R262). -/
theorem exec_decR16 (p : Reg16) (s : State) :
    exec (Fam.decR16 p) s = .next (setR16 p (r16 s p - 1#16) (retired 1 8 s)) := by
  cases p <;> rfl

/-- The word of the sum is the sum of the words modulo 0x10000; the carries are out of bits 11 and 15 (43_alu16.md R260). -/
theorem add16_eq (x y : Word) (f : Flags) :
    add16 x y f =
      (x + y,
        { z := f.z
          n := false
          hf := decide (0xFFF < x.toNat % 0x1000 + y.toNat % 0x1000)
          cf := decide (0xFFFF < x.toNat + y.toNat) }) := by
  rw [add16, BitVec.ofNat_add, BitVec.ofNat_toNat, BitVec.ofNat_toNat, BitVec.setWidth_eq, BitVec.setWidth_eq]

end Sys2Proof.Machine

/-! The statement of 43_alu16.md settled. -/

namespace Sys2Proof.Machine

/-- Settles O41: the sum by its carries, and one write of the pair stepped up or down. -/
theorem pairArithmetic : Obligations.PairArithmetic := by
  intro p s x v wrote
  have hv : r16 s p = v := by cases p <;> rfl
  have hwrote (w : Word) : setR16 p w (retired 1 8 s) = wrote w := by cases p <;> rfl
  refine ⟨⟨encoded_addHl p, ?_⟩, ⟨encoded_incR16 p, ?_⟩, ⟨encoded_decR16 p, ?_⟩⟩
  · rw [exec_addHl, add16_eq, hv]; rfl
  · rw [exec_incR16, hv, hwrote]
  · rw [exec_decR16, hv, hwrote]

end Sys2Proof.Machine

/-! SUPPORT. What a rotate, a shift or a bit instruction does as a whole CPU step, its encoding by the fields of the
second byte, and the laws of the rotated operand and carry (44_rotate_shift_bit.md R270 to R297). -/

namespace Sys2Proof.Machine

/-! ## Encodings by the fields of the second byte -/

theorem reg8OfField_code (t : Reg8) : reg8OfField t.code = some t := by
  cases t <;> rfl

theorem rotOpOfField_code (op : RotOp) : rotOpOfField op.code = op := by
  cases op <;> rfl

/-- A second byte put together from its three fields selects by them (44_rotate_shift_bit.md R274). -/
theorem encodedCb_fields (x : BitVec 2) (y z : BitVec 3) :
    EncodedCb (x ++ y ++ z) (secondaryOfFields x.toNat y (reg8OfField z)) := by
  have hx : (x ++ y ++ z).extractLsb' 6 2 = x := by
    rw [BitVec.extractLsb'_append_eq_of_le (by decide)]
    exact BitVec.extractLsb'_append_eq_left
  have hy : (x ++ y ++ z).extractLsb' 3 3 = y := by
    rw [BitVec.extractLsb'_append_eq_of_le (by decide)]
    exact BitVec.extractLsb'_append_eq_right
  have hz : (x ++ y ++ z).extractLsb' 0 3 = z := BitVec.extractLsb'_append_eq_right
  refine ⟨rfl, fun b2 => ?_⟩
  change decodeSecondary (x ++ y ++ z) = _
  rw [decodeSecondary_eq_fields, hx, hy, hz]

/-- The second byte of an instruction on a register. -/
theorem encodedCb_register (x : BitVec 2) (y : BitVec 3) (t : Reg8) :
    EncodedCb (x ++ y ++ t.code) (secondaryOfFields x.toNat y (some t)) := by
  rw [← reg8OfField_code]
  exact encodedCb_fields x y t.code

/-- The second byte of an instruction on the byte at HL. -/
theorem encodedCb_memory (x : BitVec 2) (y : BitVec 3) :
    EncodedCb (x ++ y ++ 0b110#3) (secondaryOfFields x.toNat y none) :=
  encodedCb_fields x y 0b110#3

theorem encodedCb_rotR (op : RotOp) (t : Reg8) : EncodedCb (0b00#2 ++ op.code ++ t.code) (Fam.rotR op t) := by
  have h := encodedCb_register 0b00#2 op.code t
  simpa [secondaryOfFields, rotOpOfField_code] using h

theorem encodedCb_rotHl (op : RotOp) : EncodedCb (0b00#2 ++ op.code ++ 0b110#3) (Fam.rotHl op) := by
  have h := encodedCb_memory 0b00#2 op.code
  simpa [secondaryOfFields, rotOpOfField_code] using h

/-! ## Results by their shifts -/

/-- Two parts side by side are the parts shifted into place. -/
theorem append_eq_or {n m : Nat} (x : BitVec n) (y : BitVec m) : x ++ y = (x ++ 0#m) ||| (0#n ++ y) := by
  simp

/-- A byte moved down by one with `x` moved in at bit 7, bit by bit. -/
theorem getLsbD_movedDown (x : BitVec 1) (v : Byte) {i : Nat} (hi : i < 8) :
    BitVec.getLsbD (w := 8) (x ++ v.extractLsb' 1 7) i = if i = 7 then x.getLsbD 0 else v.getLsbD (i + 1) := by
  rw [BitVec.getLsbD_append]
  by_cases h7 : i = 7
  · simp [h7]
  · have hlt : i < 7 := by omega
    simp [h7, hlt, Nat.add_comm]

/-- The arithmetic shift moves bit 7 in again (44_rotate_shift_bit.md R285). -/
theorem sshiftRight_eq_movedDown (v : Byte) : v.sshiftRight 1 = v.extractLsb' 7 1 ++ v.extractLsb' 1 7 := by
  apply BitVec.eq_of_getLsbD_eq
  intro i hi
  rw [getLsbD_movedDown _ _ hi, BitVec.getLsbD_sshiftRight]
  by_cases h7 : i = 7
  · simp [h7, BitVec.msb_eq_getLsbD_last]
  · have hlt : i + 1 < 8 := by omega
    simp [h7, hlt, hi, Nat.add_comm 1 i]

/-- The concatenations of the model are the shifts of the rules (44_rotate_shift_bit.md R275 to R289). -/
theorem rotate_fst (op : RotOp) (v : Byte) (c : Bool) : (rotate op v c).1 = shifted op v c := by
  have left1 : v <<< 1 = v.extractLsb' 0 7 ++ 0#1 := BitVec.shiftLeft_eq_concat_of_lt (by decide)
  have left4 : v <<< 4 = v.extractLsb' 0 4 ++ 0#4 := BitVec.shiftLeft_eq_concat_of_lt (by decide)
  have left7 : v <<< 7 = v.extractLsb' 0 1 ++ 0#7 := BitVec.shiftLeft_eq_concat_of_lt (by decide)
  have right1 : v >>> 1 = 0#1 ++ v.extractLsb' 1 7 := BitVec.ushiftRight_eq_extractLsb'_of_lt (by decide)
  have right4 : v >>> 4 = 0#4 ++ v.extractLsb' 4 4 := BitVec.ushiftRight_eq_extractLsb'_of_lt (by decide)
  have right7 : v >>> 7 = 0#7 ++ v.extractLsb' 7 1 := BitVec.ushiftRight_eq_extractLsb'_of_lt (by decide)
  cases op with
  | rlc => rw [shifted, left1, right7]; exact append_eq_or _ _
  | rrc => rw [shifted, right1, left7, BitVec.or_comm]; exact append_eq_or _ _
  | rl => rw [shifted, left1]; cases c <;> exact append_eq_or _ _
  | rr => rw [shifted, right1, BitVec.or_comm]; cases c <;> exact append_eq_or _ _
  | sla => exact left1.symm
  | sra => exact (sshiftRight_eq_movedDown v).symm
  | swap => rw [shifted, left4, right4]; exact append_eq_or _ _
  | srl => exact right1.symm

theorem rotate_eq (op : RotOp) (v : Byte) (c : Bool) : rotate op v c = (shifted op v c, shiftedOut op v) :=
  Prod.ext (rotate_fst op v c) (by cases op <;> rfl)

/-- The flags of a rotate or shift of the secondary table, `c` the carry before it (44_rotate_shift_bit.md R275). -/
def shiftedFlags (op : RotOp) (v : Byte) (c : Bool) : Flags :=
  { z := shifted op v c == 0x00#8, n := false, hf := false, cf := shiftedOut op v }

theorem rotFlags_rotate (op : RotOp) (v : Byte) (c : Bool) :
    rotFlags (rotate op v c) = (shifted op v c, shiftedFlags op v c) := by
  rw [rotFlags, rotate_eq, ← Bool.beq_eq_decide_eq]
  rfl

/-! ## Operand and carry under two and nine rotates -/

/-- The operand and the carry after a rotate or shift of them. -/
def turned (op : RotOp) (p : Byte × Bool) : Byte × Bool := rotate op p.1 p.2

theorem ofBool_getLsbD (v : Byte) (i : Nat) : BitVec.ofBool (v.getLsbD i) = v.extractLsb' i 1 := by
  ext j hj
  obtain rfl : j = 0 := by omega
  simp

/-- Exchanging the two parts of a word twice gives the word back. -/
theorem exchange_exchange {n m : Nat} (v : BitVec (m + n)) :
    let w := v.extractLsb' 0 n ++ v.extractLsb' n m
    w.extractLsb' 0 m ++ w.extractLsb' m n = v := by
  intro w
  rw [BitVec.extractLsb'_append_eq_right, BitVec.extractLsb'_append_eq_left]
  exact BitVec.extractLsb'_append_extractLsb'

theorem rrc_rlc (p : Byte × Bool) : (turned .rrc (turned .rlc p)).1 = p.1 :=
  exchange_exchange (n := 7) (m := 1) p.1

theorem rlc_rrc (p : Byte × Bool) : (turned .rlc (turned .rrc p)).1 = p.1 :=
  exchange_exchange (n := 1) (m := 7) p.1

theorem swap_swap (p : Byte × Bool) : (turned .swap (turned .swap p)).1 = p.1 :=
  exchange_exchange (n := 4) (m := 4) p.1

theorem leftInverse_rr_rl : Function.LeftInverse (turned .rr) (turned .rl) := by
  rintro ⟨v, c⟩
  simp only [turned, rotate]
  rw [ofBool_getLsbD, BitVec.extractLsb'_append_eq_left, BitVec.getLsbD_append]
  refine Prod.ext BitVec.extractLsb'_append_extractLsb' ?_
  cases c <;> rfl

theorem leftInverse_rl_rr : Function.LeftInverse (turned .rl) (turned .rr) := by
  rintro ⟨v, c⟩
  simp only [turned, rotate]
  rw [ofBool_getLsbD, BitVec.extractLsb'_append_eq_right, getLsbD_movedDown _ _ (by decide)]
  refine Prod.ext BitVec.extractLsb'_append_extractLsb' ?_
  cases c <;> rfl

/-- The ring of nine bits that RL and RR turn: the operand, and the carry above it (44_rotate_shift_bit.md R297). -/
def ringBit (p : Byte × Bool) (i : Nat) : Bool := if i = 8 then p.2 else p.1.getLsbD i

/-- RR turns the ring by one. -/
theorem ringBit_rr (p : Byte × Bool) {i : Nat} (hi : i < 9) :
    ringBit (turned .rr p) i = ringBit p ((i + 1) % 9) := by
  obtain ⟨v, c⟩ := p
  by_cases h8 : i = 8
  · subst h8
    rfl
  rw [Nat.mod_eq_of_lt (by omega)]
  simp only [ringBit, h8, if_false, turned, rotate]
  rw [getLsbD_movedDown _ _ (by omega)]
  by_cases h7 : i = 7
  · subst h7
    cases c <;> rfl
  · have hnext : i + 1 ≠ 8 := by omega
    simp [h7, hnext]

/-- RL turns the ring back by one. -/
theorem ringBit_rl (p : Byte × Bool) {i : Nat} (hi : i < 9) :
    ringBit (turned .rl p) ((i + 1) % 9) = ringBit p i := by
  rw [← ringBit_rr _ hi, leftInverse_rr_rl]

/-- RR repeated `k` times turns the ring by `k`. -/
theorem ringBit_rr_repeat (p : Byte × Bool) (k : Nat) {i : Nat} (hi : i < 9) :
    ringBit (Nat.repeat (turned .rr) k p) i = ringBit p ((i + k) % 9) := by
  induction k generalizing i with
  | zero => rw [Nat.add_zero, Nat.mod_eq_of_lt hi]; rfl
  | succ k ih =>
    rw [Nat.repeat, ringBit_rr _ hi, ih (Nat.mod_lt _ (by decide)), Nat.mod_add_mod, Nat.add_assoc, Nat.add_comm 1]

/-- RL repeated `k` times turns the ring back by `k`. -/
theorem ringBit_rl_repeat (p : Byte × Bool) (k : Nat) {i : Nat} (hi : i < 9) :
    ringBit (Nat.repeat (turned .rl) k p) ((i + k) % 9) = ringBit p i := by
  induction k with
  | zero => rw [Nat.add_zero, Nat.mod_eq_of_lt hi]; rfl
  | succ k ih =>
    rw [Nat.repeat, ← Nat.add_assoc, ← Nat.mod_add_mod, ringBit_rl _ (Nat.mod_lt _ (by decide)), ih]

theorem eq_of_ringBit {p q : Byte × Bool} (h : ∀ i, i < 9 → ringBit p i = ringBit q i) : p = q := by
  refine Prod.ext (BitVec.eq_of_getLsbD_eq fun i hi => ?_) (h 8 (by decide))
  have hbit := h i (by omega)
  have h8 : i ≠ 8 := by omega
  rwa [ringBit, ringBit, if_neg h8, if_neg h8] at hbit

/-- Nine turns go once round the ring. -/
theorem add_nine_mod {i : Nat} (hi : i < 9) : (i + 9) % 9 = i := by
  rw [Nat.add_mod_right, Nat.mod_eq_of_lt hi]

theorem rr_repeat_nine (p : Byte × Bool) : Nat.repeat (turned .rr) 9 p = p :=
  eq_of_ringBit fun i hi => by rw [ringBit_rr_repeat p 9 hi, add_nine_mod hi]

theorem rl_repeat_nine (p : Byte × Bool) : Nat.repeat (turned .rl) 9 p = p :=
  eq_of_ringBit fun i hi => by rw [← ringBit_rl_repeat p 9 hi, add_nine_mod hi]

/-! ## Rotates and shifts as CPU steps -/

/-- The state after a rotate or shift of a register. -/
def rotateStep (op : RotOp) (t : Reg8) (s : State) : State :=
  setR8F t (rotFlags (rotate op (s.regs.get t) s.f.cf)) (retired 2 8 s)

theorem exec_rotR_eq (op : RotOp) (t : Reg8) (s : State) : exec (Fam.rotR op t) s = .next (rotateStep op t s) :=
  exec_rotR op t s

theorem retire_rotA (op : RotOp) (s : State) :
    retire 1 4 (rotA op) s = .next (setAF8 (rotAFlags (rotate op s.regs.a s.f.cf)) (retired 1 4 s)) := rfl

theorem exec_rotHl_eq (op : RotOp) (s : State) :
    exec (Fam.rotHl op) s =
      .next (setMemF (hl s) (rotFlags (rotate op (readByte s (hl s)) s.f.cf)) (retired 2 16 s)) := by
  rw [exec_rotHl, ← finish_setMemF, ← readByte_beginStep 2 s]
  rfl

/-- The two operand forms of a rotate or shift (44_rotate_shift_bit.md R275 to R290). -/
theorem rotate_forms (op : RotOp) (s : State) :
    (∀ t : Reg8,
      EncodedCb (0b00#2 ++ op.code ++ t.code) (Fam.rotR op t) ∧
      exec (Fam.rotR op t) s =
        .next { retired 2 8 s with
          regs := s.regs.set t (shifted op (s.regs.get t) s.f.cf), f := shiftedFlags op (s.regs.get t) s.f.cf }) ∧
    EncodedCb (0b00#2 ++ op.code ++ 0b110#3) (Fam.rotHl op) ∧
    exec (Fam.rotHl op) s =
      .next { writeByte (retired 2 16 s) (hl s) (shifted op (readByte s (hl s)) s.f.cf) with
        f := shiftedFlags op (readByte s (hl s)) s.f.cf } := by
  refine ⟨fun t => ⟨encodedCb_rotR op t, ?_⟩, encodedCb_rotHl op, ?_⟩
  · rw [exec_rotR_eq, rotateStep, rotFlags_rotate]
    rfl
  · rw [exec_rotHl_eq, rotFlags_rotate]
    rfl

/-- `u` differs from `s` in its registers by `t` alone, and `t` and the carry hold `p`. -/
structure HoldsOnly (t : Reg8) (s u : State) (p : Byte × Bool) : Prop where
  regs : u.regs = s.regs.set t p.1
  carry : u.f.cf = p.2

theorem holdsOnly_self (t : Reg8) (s : State) : HoldsOnly t s s (s.regs.get t, s.f.cf) :=
  ⟨(Regs.set_get s.regs t).symm, rfl⟩

theorem HoldsOnly.step {t : Reg8} {s u : State} {p : Byte × Bool} (h : HoldsOnly t s u p) (op : RotOp) :
    HoldsOnly t s (rotateStep op t u) (turned op p) := by
  have hget : u.regs.get t = p.1 := by rw [h.regs, Regs.get_set, if_pos rfl]
  have hturn : rotate op (u.regs.get t) u.f.cf = turned op p := by rw [hget, h.carry, turned]
  refine ⟨?_, congrArg Prod.snd hturn⟩
  calc (rotateStep op t u).regs = u.regs.set t (turned op p).1 := by rw [← hturn]; rfl
    _ = s.regs.set t (turned op p).1 := by rw [h.regs, Regs.set_set]

/-- With its old value back in `t`, the register file is back. -/
theorem HoldsOnly.regs_eq {t : Reg8} {s u : State} {p : Byte × Bool} (h : HoldsOnly t s u p)
    (hp : p.1 = s.regs.get t) : u.regs = s.regs := by
  rw [h.regs, hp, Regs.set_get]

theorem holdsOnly_pair (i j : RotOp) (t : Reg8) (s : State) :
    HoldsOnly t s (rotateStep j t (rotateStep i t s)) (turned j (turned i (s.regs.get t, s.f.cf))) :=
  ((holdsOnly_self t s).step i).step j

theorem holdsOnly_repeat (op : RotOp) (t : Reg8) (s : State) (k : Nat) :
    HoldsOnly t s (Nat.repeat (rotateStep op t) k s) (Nat.repeat (turned op) k (s.regs.get t, s.f.cf)) := by
  induction k with
  | zero => exact holdsOnly_self t s
  | succ k ih => exact ih.step op

/-! ## Bits -/

theorem getLsbD_oneHot (b : BitVec 3) (k : Nat) : (oneHot b).getLsbD k = (k == b.toNat) := by
  have h : b.toNat < 8 := b.isLt
  change (BitVec.twoPow 8 b.toNat).getLsbD k = _
  rw [BitVec.getLsbD_twoPow]
  simp [h, eq_comm, Bool.beq_eq_decide_eq]

/-- The byte without bit `b` (44_rotate_shift_bit.md R293). -/
theorem getLsbD_reset (b : BitVec 3) (v : Byte) (k : Nat) (hk : k < 8) :
    (v &&& ~~~oneHot b).getLsbD k = (v.getLsbD k && k != b.toNat) := by
  rw [BitVec.getLsbD_and, BitVec.getLsbD_not, getLsbD_oneHot, decide_eq_true hk, Bool.true_and, bne]

/-- The byte with bit `b` (44_rotate_shift_bit.md R295). -/
theorem getLsbD_set (b : BitVec 3) (v : Byte) (k : Nat) :
    (v ||| oneHot b).getLsbD k = (v.getLsbD k || k == b.toNat) := by
  rw [BitVec.getLsbD_or, getLsbD_oneHot]

/-- The byte at HL read, changed and written back as a whole CPU step (44_rotate_shift_bit.md R274). -/
theorem retire_modifyHl (len k : Nat) (f : Byte → Byte) (s : State) :
    retire len k (fun u => writeByte u (hl u) (f (readByte u (hl u)))) s =
      .next (writeByte (retired len k s) (hl s) (f (readByte s (hl s)))) := by
  rw [← finish_writeByte, ← readByte_beginStep len s]
  rfl

theorem exec_bitHl_eq (b : BitVec 3) (s : State) :
    exec (Fam.bitHl b) s = .next { retired 2 12 s with f := bitFlags b (readByte s (hl s)) s.f } := by
  rw [exec_bitHl, ← readByte_beginStep 2 s]
  rfl

end Sys2Proof.Machine

/-! The statements of 44_rotate_shift_bit.md settled. -/

namespace Sys2Proof.Machine

/-- Settles O45: the operand and the carry come back, and with them the register file; nine turns go once round
the ring. -/
theorem rotateLaws : Obligations.RotateLaws := by
  intro t s pair nine
  have step (i j : RotOp) (same : State → Prop) (h : same (rotateStep j t (rotateStep i t s))) :
      pair (Fam.rotR i t) (Fam.rotR j t) same :=
    ⟨_, _, exec_rotR_eq i t s, exec_rotR_eq j t _, h⟩
  have steps (op : RotOp) (h : ∀ p, Nat.repeat (turned op) 9 p = p) : nine (Fam.rotR op t) := by
    have hnine := holdsOnly_repeat op t s 9
    rw [h] at hnine
    refine ⟨fun k => Nat.repeat (rotateStep op t) k s, rfl, fun k _ => ?_, hnine.regs_eq rfl, hnine.carry⟩
    exact exec_rotR_eq op t _
  have hrl := holdsOnly_pair .rl .rr t s
  have hrr := holdsOnly_pair .rr .rl t s
  rw [leftInverse_rr_rl] at hrl
  rw [leftInverse_rl_rr] at hrr
  refine ⟨step _ _ _ ?_, step _ _ _ ?_, step _ _ _ ?_, step _ _ _ ?_, step _ _ _ ?_, ?_, ?_⟩
  · exact (holdsOnly_pair .rlc .rrc t s).regs_eq (rrc_rlc _)
  · exact (holdsOnly_pair .rrc .rlc t s).regs_eq (rlc_rrc _)
  · exact ⟨hrl.regs_eq rfl, hrl.carry⟩
  · exact ⟨hrr.regs_eq rfl, hrr.carry⟩
  · exact (holdsOnly_pair .swap .swap t s).regs_eq (swap_swap _)
  · exact steps .rl rl_repeat_nine
  · exact steps .rr rr_repeat_nine

/-- Settles O42: the four are the rotate of A by the shifts, with Z clear. -/
theorem accumulatorRotates : Obligations.AccumulatorRotates := by
  intro s result
  have h (op : RotOp) : retire 1 4 (rotA op) s = .next (result op) := by
    rw [retire_rotA, rotate_eq]
    rfl
  exact ⟨⟨⟨rfl, fun _ _ => rfl⟩, h .rlc⟩, ⟨⟨rfl, fun _ _ => rfl⟩, h .rrc⟩, ⟨⟨rfl, fun _ _ => rfl⟩, h .rl⟩,
    ⟨⟨rfl, fun _ _ => rfl⟩, h .rr⟩⟩

/-- Settles O43: result and flags by the shifts, whichever operation it is. -/
theorem secondaryRotates : Obligations.SecondaryRotates :=
  fun op s _ => rotate_forms op s

/-- Settles O44: the shifts have the forms of the rotates. -/
theorem secondaryShifts : Obligations.SecondaryShifts :=
  fun op s _ => rotate_forms op s

/-- Settles O46: the byte with and without bit `b`, bit by bit. -/
theorem bitInstructions : Obligations.BitInstructions := by
  intro b s p m tested
  refine ⟨fun t => ⟨encodedCb_register 0b01#2 b t, exec_bitR b t s⟩, encodedCb_memory 0b01#2 b, exec_bitHl_eq b s,
    fun t => ⟨encodedCb_register 0b10#2 b t, _, getLsbD_reset b _, exec_resR b t s⟩,
    ⟨encodedCb_memory 0b10#2 b, _, getLsbD_reset b m, ?_⟩,
    fun t => ⟨encodedCb_register 0b11#2 b t, _, fun k _ => getLsbD_set b _ k, exec_setR b t s⟩,
    ⟨encodedCb_memory 0b11#2 b, _, fun k _ => getLsbD_set b m k, ?_⟩⟩
  · exact (exec_resHl b s).trans (retire_modifyHl 2 16 (· &&& ~~~oneHot b) s)
  · exact (exec_setHl b s).trans (retire_modifyHl 2 16 (· ||| oneHot b) s)

end Sys2Proof.Machine

/-! SUPPORT. What a jump, a call and a return do as whole CPU steps, and the families of the transfers by their conditions
(45_control_flow.md R300 to R310). -/

namespace Sys2Proof.Machine

/-! ## Transfers within the frame of a step -/

/-- A call within the frame of a step: the address pushed is the PC past the instruction (45_control_flow.md R305). -/
theorem finish_call (len k : Nat) (a : Word) (s : State) :
    finishStep s.imePending k (call a (beginStep len s)) =
      { push16 (retired len k s).pc (retired len k s) with pc := a } :=
  congrArg (jump a) (finish_push16 len k s (pcAfter s len))

/-- A return within the frame of a step: the word at `SP` is the one in the state before it (45_control_flow.md R307). -/
theorem finish_returnPc (len k : Nat) (s : State) :
    finishStep s.imePending k (returnPc (beginStep len s)) =
      { retired len k s with sp := s.sp + 2#16, pc := popValue s } := by
  rw [returnPc, popValue_congr (sameBus_beginStep len s) rfl]
  rfl

/-- A conditional transfer as a whole CPU step: the transfer at its own cost where the condition holds on the flags before
the step, and nothing but retiring at the other cost where it fails (30_encoding.md R146, R155). -/
theorem retire_branch {len taken : Nat} {body : State → State} {s t : State} (cc : Cond) (notTaken : Nat)
    (h : finishStep s.imePending taken (body (beginStep len s)) = t) :
    retire len (branchCost cc s taken notTaken) (fun u => if cond cc u.f then body u else u) s =
      .next (if cond cc s.f then t else retired len notTaken s) := by
  rw [retire_eq, branchCost, beginStep_f]
  split
  · rw [h]
  · rw [finishStep_beginStep]

/-! ## The families by their conditions -/

theorem encoded_jpCc (cc : Cond) :
    Encoded (0b110#3 ++ cc.code ++ 0b010#3) 3 (fun b1 b2 => Fam.jpCc cc (b2 ++ b1)) := by
  cases cc <;> exact ⟨rfl, fun _ _ => rfl⟩

theorem encoded_jrCc (cc : Cond) : Encoded (0b001#3 ++ cc.code ++ 0b000#3) 2 (fun b1 _ => Fam.jrCc cc b1) := by
  cases cc <;> exact ⟨rfl, fun _ _ => rfl⟩

theorem encoded_callCc (cc : Cond) :
    Encoded (0b110#3 ++ cc.code ++ 0b100#3) 3 (fun b1 b2 => Fam.callCc cc (b2 ++ b1)) := by
  cases cc <;> exact ⟨rfl, fun _ _ => rfl⟩

theorem encoded_retCc (cc : Cond) : Encoded (0b110#3 ++ cc.code ++ 0b000#3) 1 (fun _ _ => Fam.retCc cc) := by
  cases cc <;> exact ⟨rfl, fun _ _ => rfl⟩

theorem encoded_rst (t : BitVec 3) : Encoded (0b11#2 ++ t ++ 0b111#3) 1 (fun _ _ => Fam.rst t) := by
  cases t using bitNumber_cases <;> exact ⟨rfl, fun _ _ => rfl⟩

theorem exec_jpCc (cc : Cond) (a : Word) (s : State) :
    exec (Fam.jpCc cc a) s = retire 3 (branchCost cc s 16 12) (jumpIf cc a) s := by
  cases cc <;> rfl

theorem exec_jrCc (cc : Cond) (e : Byte) (s : State) :
    exec (Fam.jrCc cc e) s = retire 2 (branchCost cc s 12 8) (jumpRelIf cc e) s := by
  cases cc <;> rfl

theorem exec_callCc (cc : Cond) (a : Word) (s : State) :
    exec (Fam.callCc cc a) s = retire 3 (branchCost cc s 24 12) (callIf cc a) s := by
  cases cc <;> rfl

theorem exec_retCc (cc : Cond) (s : State) :
    exec (Fam.retCc cc) s = retire 1 (branchCost cc s 20 8) (returnIf cc) s := by
  cases cc <;> rfl

theorem exec_rst (t : BitVec 3) (s : State) :
    exec (Fam.rst t) s = retire 1 16 (call (BitVec.ofNat 16 (8 * t.toNat))) s := by
  cases t using bitNumber_cases <;> rfl

end Sys2Proof.Machine

/-! The statements of 45_control_flow.md settled. -/

namespace Sys2Proof.Machine

/-- Settles O47: an unconditional jump is one write of PC in the retired state, and a conditional one is that or nothing. -/
theorem jumps : Obligations.Jumps := by
  refine ⟨fun _ => ⟨rfl, rfl, rfl, rfl⟩, fun a s => ⟨⟨rfl, fun _ _ => rfl⟩, rfl⟩, fun cc a s => ⟨encoded_jpCc cc, ?_⟩,
    fun s => ⟨⟨rfl, fun _ _ => rfl⟩, rfl⟩, fun e s => ⟨⟨rfl, fun _ _ => rfl⟩, rfl⟩, fun cc e s => ⟨encoded_jrCc cc, ?_⟩⟩
  · exact (exec_jpCc cc a s).trans (retire_branch (body := jump a) cc 12 rfl)
  · exact (exec_jrCc cc e s).trans (retire_branch (body := jumpRel e) cc 8 rfl)

/-- Settles O48: each is a push of the PC past it and a jump, within the frame of a step. -/
theorem callsAndRestarts : Obligations.CallsAndRestarts := by
  refine ⟨fun a s => ⟨⟨rfl, fun _ _ => rfl⟩, exec_callA16 a s⟩, fun cc a s => ⟨encoded_callCc cc, ?_⟩,
    fun t s => ⟨encoded_rst t, ?_⟩⟩
  · exact (exec_callCc cc a s).trans (retire_branch (body := call a) cc 12 (finish_call 3 24 a s))
  · rw [exec_rst, retire_eq, finish_call]

/-- Settles O49: each is `PC <- pop16()` within the frame of a step, RETI with the enable latch set besides. -/
theorem returns : Obligations.Returns := by
  refine ⟨fun s => ⟨⟨rfl, fun _ _ => rfl⟩, ?_⟩, fun cc s => ⟨encoded_retCc cc, ?_⟩, fun s => ⟨⟨rfl, fun _ _ => rfl⟩, ?_⟩⟩
  · exact congrArg Host.Outcome.next (finish_returnPc 1 16 s)
  · exact (exec_retCc cc s).trans (retire_branch (body := returnPc) cc 8 (finish_returnPc 1 20 s))
  · exact congrArg (fun u => Host.Outcome.next (enableLater u)) (finish_returnPc 1 16 s)

end Sys2Proof.Machine

/-! SUPPORT. What HALT does as a whole CPU step (46_cpu_control.md R321, R323). -/

namespace Sys2Proof.Machine

/-- HALT's test is on the state after its fetch, which keeps IME, the requests and the configuration, and on the enable
latch sampled before it. -/
theorem haltBug_test_iff (s : State) :
    ((beginStep 1 s).cfg.haltBug && !(beginStep 1 s).ime && !s.imePending &&
        decide (pending (beginStep 1 s) ≠ 0#5)) = true ↔
      s.cfg.haltBug = true ∧ s.ime = false ∧ s.imePending = false ∧ s.ifr &&& s.ie.setWidth 5 ≠ 0#5 := by
  have hpending : pending (beginStep 1 s) = s.ifr &&& s.ie.setWidth 5 := rfl
  rw [hpending]
  simp only [beginStep_cfg, beginStep_ime, Bool.and_eq_true, Bool.not_eq_true', decide_eq_true_eq, and_assoc]

/-- HALT within the frame of a step: one latch set in the retired state, the HALT bug's or the halt's. -/
theorem finish_halt (k : Nat) (s : State) :
    finishStep s.imePending k (halt s.imePending (beginStep 1 s)) =
      if s.cfg.haltBug = true ∧ s.ime = false ∧ s.imePending = false ∧ s.ifr &&& s.ie.setWidth 5 ≠ 0#5 then
        { retired 1 k s with haltBug := true }
      else { retired 1 k s with halted := true } := by
  rw [halt, apply_ite (finishStep s.imePending k)]
  exact ite_congr (propext (haltBug_test_iff s)) (fun _ => rfl) (fun _ => rfl)

end Sys2Proof.Machine

/-! The statements of 46_cpu_control.md on NOP, DI, EI and HALT settled. -/

namespace Sys2Proof.Machine

/-- Settles O50: NOP is the frame of a step alone; DI's frame drops the enable sampled, EI's consumes it before the latch is
set again. -/
theorem nopDiEi : Obligations.NopDiEi := fun s =>
  ⟨⟨⟨rfl, fun _ _ => rfl⟩, congrArg Host.Outcome.next (finishStep_beginStep 1 4 s)⟩,
    ⟨⟨rfl, fun _ _ => rfl⟩, rfl⟩, ⟨⟨rfl, fun _ _ => rfl⟩, rfl⟩⟩

/-- Settles O51: the HALT bug's condition, tested after the fetch, is the one on the state before the step. -/
theorem haltInstruction : Obligations.HaltInstruction := fun s =>
  ⟨⟨rfl, fun _ _ => rfl⟩, congrArg Host.Outcome.next (finish_halt 4 s)⟩

end Sys2Proof.Machine

/-! SUPPORT. The timer tick as increments of TIMA beside the divider and the accumulator, its loop, and TIMA up to its
overflow (60_exceptions.md R370 to R372). -/

namespace Sys2Proof.Machine

/-! ## The divider and the accumulator beside TIMA -/

/-- The state with the timer's divider and accumulator at the values given; an increment of TIMA looks at neither. -/
def setCounters (div : Word) (acc : Nat) (s : State) : State :=
  { s with timer := { s.timer with div := div, acc := acc } }

theorem timaIncrement_setCounters (div : Word) (acc : Nat) (s : State) :
    timaIncrement (setCounters div acc s) = setCounters div acc (timaIncrement s) := by
  rw [timaIncrement, timaIncrement, apply_ite (setCounters div acc)]
  rfl

theorem timaIncrements_setCounters (n : Nat) (div : Word) (acc : Nat) (s : State) :
    timaIncrements n (setCounters div acc s) = setCounters div acc (timaIncrements n s) := by
  induction n generalizing s with
  | zero => rfl
  | succ n ih => rw [timaIncrements, timaIncrement_setCounters, ih, timaIncrements]

theorem timaIncrements_add (m n : Nat) (s : State) :
    timaIncrements (m + n) s = timaIncrements n (timaIncrements m s) := by
  induction m generalizing s with
  | zero => rw [Nat.zero_add, timaIncrements]
  | succ m ih => rw [Nat.succ_add, timaIncrements, ih, timaIncrements]

theorem timaIncrements_period (n : Nat) (s : State) : (timaIncrements n s).timer.period = s.timer.period := by
  rw [timaIncrements_timer]
  rfl

theorem timaIncrement_period (s : State) : (timaIncrement s).timer.period = s.timer.period :=
  timaIncrements_period 1 s

theorem period_pos (t : Timer) : 0 < t.period := threshold_pos _

/-- The thresholds of the four selectors (60_exceptions.md R370). -/
theorem period_eq_getD (t : Timer) : t.period = [1024, 16, 64, 256].getD (t.tac.toNat % 4) 0 := by
  have hsel : ∀ x : BitVec 3, threshold (x.setWidth 2) = [1024, 16, 64, 256].getD (x.toNat % 4) 0 := by decide
  exact hsel t.tac

/-! ## The tick and its loop -/

theorem timerTick_setCounters {s : State} (h : s.timer.tac.getLsbD 2 = true) (c : Nat) (div : Word) (acc : Nat) :
    timerTick c (setCounters div acc s) =
      setCounters (div + BitVec.ofNat 16 c) ((acc + c) % s.timer.period)
        (timaIncrements ((acc + c) / s.timer.period) s) :=
  (if_pos h).trans (timaIncrements_setCounters _ _ _ s)

theorem timerTick_of_enabled {s : State} (h : s.timer.tac.getLsbD 2 = true) (c : Nat) :
    timerTick c s =
      setCounters (s.timer.div + BitVec.ofNat 16 c) ((s.timer.acc + c) % s.timer.period)
        (timaIncrements ((s.timer.acc + c) / s.timer.period) s) :=
  timerTick_setCounters h c s.timer.div s.timer.acc

theorem timerTick_of_disabled {s : State} (h : s.timer.tac.getLsbD 2 = false) (c : Nat) :
    timerTick c s = setCounters (s.timer.div + BitVec.ofNat 16 c) s.timer.acc s :=
  if_neg (ne_true_of_eq_false h)

/-- With fuel for its accumulator, the loop makes one increment per whole period and leaves the remainder: each turn takes
a period, which is positive, off the accumulator. -/
theorem timerLoop_setCounters {fuel acc : Nat} (div : Word) (s : State) (h : acc ≤ fuel) :
    timerLoop fuel (setCounters div acc s) =
      setCounters div (acc % s.timer.period) (timaIncrements (acc / s.timer.period) s) := by
  induction fuel generalizing acc s with
  | zero =>
    rw [Nat.le_zero.1 h, Nat.zero_mod, Nat.zero_div]
    rfl
  | succ fuel ih =>
    have hpos := period_pos s.timer
    rcases Nat.lt_or_ge acc s.timer.period with hlt | hge
    · rw [Nat.mod_eq_of_lt hlt, Nat.div_eq_of_lt hlt]
      exact if_neg (Nat.not_le.2 hlt)
    · have hturn : timerLoop (fuel + 1) (setCounters div acc s) =
          timerLoop fuel (timaIncrement (setCounters div (acc - s.timer.period) s)) := if_pos hge
      rw [hturn, timaIncrement_setCounters, ih _ (by omega), timaIncrement_period, Nat.mod_eq_sub_mod hge,
        Nat.div_eq_sub_div hpos hge, timaIncrements]

/-- The whole periods in `n + d` cycles: those in `n`, and those in its remainder and `d`. -/
theorem div_add_mod_add_div {p : Nat} (hp : 0 < p) (n d : Nat) : n / p + (n % p + d) / p = (n + d) / p := by
  rw [← Nat.mul_add_div hp, ← Nat.add_assoc, Nat.div_add_mod]

/-- No cycle is lost between two ticks: the second one starts from the remainder of the first (60_exceptions.md R371). -/
theorem timerTick_timerTick (c d : Nat) (s : State) : timerTick d (timerTick c s) = timerTick (c + d) s := by
  have hdiv : s.timer.div + BitVec.ofNat 16 c + BitVec.ofNat 16 d = s.timer.div + BitVec.ofNat 16 (c + d) := by
    rw [BitVec.ofNat_add, BitVec.add_assoc]
  cases h : s.timer.tac.getLsbD 2 with
  | false =>
    rw [timerTick_of_disabled h, timerTick_of_disabled h, ← hdiv]
    exact timerTick_of_disabled (s := setCounters (s.timer.div + BitVec.ofNat 16 c) s.timer.acc s) h d
  | true =>
    have hon (n : Nat) : (timaIncrements n s).timer.tac.getLsbD 2 = true := by rw [timaIncrements_timer]; exact h
    rw [timerTick_of_enabled h, timerTick_setCounters (hon _), timaIncrements_period, Nat.mod_add_mod,
      ← timaIncrements_add, div_add_mod_add_div (period_pos s.timer), hdiv, Nat.add_assoc, timerTick_of_enabled h]

/-! ## TIMA up to its overflow -/

theorem timaIncrement_of_ne {s : State} (h : s.timer.tima ≠ 0xFF#8) :
    timaIncrement s = { s with timer := { s.timer with tima := s.timer.tima + 1#8 } } :=
  if_neg h

theorem timaIncrement_of_eq {s : State} (h : s.timer.tima = 0xFF#8) :
    timaIncrement s = request 2 { s with timer := { s.timer with tima := s.timer.tma } } :=
  if_pos h

theorem timaIncrements_one (s : State) : timaIncrements 1 s = timaIncrement s := rfl

/-- Below the overflow, increments add up. -/
theorem timaIncrements_of_lt {k : Nat} {s : State} (h : k < 256 - s.timer.tima.toNat) :
    timaIncrements k s = { s with timer := { s.timer with tima := s.timer.tima + BitVec.ofNat 8 k } } := by
  induction k with
  | zero => rw [timaIncrements, BitVec.add_zero]
  | succ k ih =>
    have hne : s.timer.tima + BitVec.ofNat 8 k ≠ 0xFF#8 := by bv_omega
    rw [timaIncrements_add, ih (by omega), timaIncrements_one, timaIncrement_of_ne hne, BitVec.add_assoc,
      ← BitVec.ofNat_add]

/-- The increment after the last value of TIMA is the one that reloads and requests. -/
theorem timaIncrements_overflow (s : State) :
    timaIncrements (256 - s.timer.tima.toNat) s =
      request 2 { s with timer := { s.timer with tima := s.timer.tma } } := by
  obtain ⟨k, hk⟩ := Nat.exists_eq_add_one_of_ne_zero (Nat.sub_ne_zero_of_lt s.timer.tima.isLt)
  have hff : s.timer.tima + BitVec.ofNat 8 k = 0xFF#8 := by bv_omega
  have hlast : timaIncrements k s = { s with timer := { s.timer with tima := 0xFF#8 } } := by
    rw [timaIncrements_of_lt (by omega), hff]
  rw [hk, timaIncrements_add, hlast, timaIncrements_one, timaIncrement_of_eq rfl]

/-- With the 16-cycle period and an empty accumulator, `n` periods are `n` increments and no remainder. -/
theorem timerTick_sixteen_mul {s : State} (htac : s.timer.tac = 5#3) (hacc : s.timer.acc = 0) (n : Nat) :
    timerTick (16 * n) s = setCounters (s.timer.div + BitVec.ofNat 16 (16 * n)) 0 (timaIncrements n s) := by
  have hon : s.timer.tac.getLsbD 2 = true := by rw [htac]; rfl
  have hperiod : s.timer.period = 16 := by rw [Timer.period, htac]; rfl
  rw [timerTick_of_enabled hon, hperiod, hacc, Nat.zero_add, Nat.mul_div_cancel_left n (by decide), Nat.mul_mod_right]

end Sys2Proof.Machine

/-! SUPPORT. The pending sources one by one, and the interrupt step by whether one is pending (60_exceptions.md R352, R353). -/

namespace Sys2Proof.Machine

theorem getLsbD_pending (s : State) (j : Nat) :
    (pending s).getLsbD j = true ↔ s.ifr.getLsbD j = true ∧ s.ie.getLsbD j = true := by
  have hwidth : s.ifr.getLsbD j = true → j < 5 := BitVec.lt_of_getLsbD
  simp only [pending, BitVec.getLsbD_and, BitVec.getLsbD_setWidth, Bool.and_eq_true, decide_eq_true_eq]
  exact ⟨fun ⟨hf, _, he⟩ => ⟨hf, he⟩, fun ⟨hf, he⟩ => ⟨hf, hwidth hf, he⟩⟩

theorem pending_eq_zero_iff (s : State) :
    pending s = 0#5 ↔ ∀ j, j < 5 → ¬ (s.ifr.getLsbD j = true ∧ s.ie.getLsbD j = true) := by
  simp only [← getLsbD_pending, Bool.not_eq_true]
  refine ⟨fun h j _ => by rw [h, BitVec.getLsbD_zero], fun h => BitVec.eq_of_getLsbD_eq fun j hj => ?_⟩
  rw [h j hj, BitVec.getLsbD_zero]

theorem interruptStep_of_pending {s : State} (h : pending s ≠ 0#5) :
    interruptStep s =
      if s.ime then (dispatchInterrupt (lowestSource (pending s)) { s with halted := false }, some 20)
      else ({ s with halted := false }, none) :=
  if_neg h

theorem lowestSource_eq {p : BitVec 5} {i : Nat} (hi : i < 5) (hset : p.getLsbD i = true)
    (hlow : ∀ j, j < i → ¬ p.getLsbD j = true) : lowestSource p = i := by
  revert p i
  decide

end Sys2Proof.Machine

/-! The statements of 60_exceptions.md settled. -/

namespace Sys2Proof.Machine

/-- Settles O8: the byte at PC selects one of the twelve instructions whatever follows it, and a raise ends the step. -/
theorem faultEndsTheRun : Obligations.FaultEndsTheRun := by
  refine ⟨fun s hf hh hbyte => ?_, fun s op pc hf => step_faulted hf⟩
  obtain ⟨p, hp, hnum⟩ := List.mem_map.1 (show (readByte s s.pc).toNat ∈ unhandledOpcodes from hbyte)
  have hop : readByte s s.pc = p.1 := (BitVec.eq_of_toNat_eq hnum).symm
  obtain ⟨⟨-, hdecode⟩, hexec⟩ := unimplementedBytesRaise p hp
  have hfetch : fetchInstr s = p.2.2 := by rw [fetchInstr, hop, hdecode]
  rw [hop, step_running hf hh (hfetch ▸ hexec s)]
  rfl

/-- Settles O53: the cases of the interrupt step, the pending set read bit by bit. -/
theorem interruptDispatch : Obligations.InterruptDispatch := by
  intro s isPending
  have hsome {j : Nat} (hj : j < 5) (hpend : isPending j) : pending s ≠ 0#5 :=
    fun h0 => (pending_eq_zero_iff s).1 h0 j hj hpend
  refine ⟨fun hnone => interruptStep_of_not_pending ((pending_eq_zero_iff s).2 hnone), ?_, ?_⟩
  · rintro ⟨j, hj, hpend⟩ hime
    rw [interruptStep_of_pending (hsome hj hpend), hime, if_neg Bool.false_ne_true]
  · intro i hi hpend hlow hime
    have hsource : lowestSource (pending s) = i :=
      lowestSource_eq hi ((getLsbD_pending s i).2 hpend) fun j hj hbit => hlow j hj ((getLsbD_pending s j).1 hbit)
    rw [interruptStep_of_pending (hsome hi hpend), hsource, if_pos hime]
    rfl

/-- Settles O55: the loop makes the increments that the tick counts by division, and the remainders of two ticks add up. -/
theorem timerTickLoop : Obligations.TimerTickLoop := by
  refine ⟨fun c s => ?_, fun s => period_eq_getD s.timer, fun c d s => timerTick_timerTick c d s⟩
  cases h : s.timer.tac.getLsbD 2 with
  | false => exact timerTick_of_disabled h c
  | true => exact (timerTick_of_enabled h c).trans (timerLoop_setCounters _ s (Nat.le_refl _)).symm

/-- Settles O56: `n` periods are `n` increments; the last of `256 - TIMA` finds TIMA at 0xFF. -/
theorem timerSixteenCyclePeriod : Obligations.TimerSixteenCyclePeriod := by
  intro s htac hacc
  refine ⟨fun k hk => ?_, ?_⟩
  · rw [timerTick_sixteen_mul htac hacc, timaIncrements_of_lt hk, ← hacc]
    rfl
  · rw [timerTick_sixteen_mul htac hacc, timaIncrements_overflow, ← hacc]
    rfl

end Sys2Proof.Machine

/-! SUPPORT. The reset state of any parameters whose stores and clock bytes are in form meets the invariant
(70_reset_and_hazards.md R401 step 5). -/

namespace Sys2Proof.Machine

/-- The bank registers that may not be 0 start at 1 (10_state.md R66); the clock bytes are those of `INIT_MEM`. -/
theorem Cart.ok_init {rtc : Memory} (hwf : rtc.wf = true) (hwithin : Memory.within 5 rtc = true) (v : CartVariant) :
    (Cart.init rtc v).ok = true := by
  cases v with
  | mbc3 => simp [Cart.init, Cart.ok, hwf, hwithin]
  | romOnly | mbc1 | mbc5 => rfl

/-- At reset the accumulator is 0, the latches are clear and no fault is recorded, so only the contents of the stores and
of the clock are left to the parameters. -/
theorem State.inv_init {p : Params} (hstores : (State.init p).storesOk = true) (hwf : p.mem.rtc.wf = true)
    (hwithin : Memory.within 5 p.mem.rtc = true) : (State.init p).Inv :=
  ⟨hstores, Cart.ok_init hwf hwithin p.variant, period_pos _, nofun, nofun, rfl⟩

/-- The stores of `State.reset` are empty, and its blank image has the two banks that R8 asks for. -/
theorem State.storesOk_reset : State.reset.storesOk = true :=
  (storesOk_iff State.reset).2
    ⟨⟨rfl, rfl, rfl⟩, ⟨rfl, rfl⟩, ⟨rfl, rfl⟩, ⟨rfl, rfl⟩, ⟨rfl, rfl⟩, ⟨rfl, rfl⟩, ⟨rfl, rfl⟩, Nat.le_refl 2⟩

end Sys2Proof.Machine

/-! The statement of 70_reset_and_hazards.md on the invariant at reset settled. -/

namespace Sys2Proof.Machine

/-- Settles O12: the standard parameters have empty stores and no clock byte listed. -/
theorem resetMeetsInvariant : Obligations.ResetMeetsInvariant :=
  State.inv_init State.storesOk_reset rfl rfl

end Sys2Proof.Machine
